-- ==== Sys2Proof/Word.lean ====
section
/-!
DEFINITION. The word types of the engine (00_scope.md R6): bytes, 16-bit quantities and
32-bit checksums. Counts, lengths and pending motion are `Nat` and `Int`, as the spec has them.
-/

namespace Sys2Proof

/-- `u8`: one byte, bit 7 most significant (R6). -/
abbrev Byte := BitVec 8

/-- `u16`: a coordinate, a controller address or a live joystick register (R6). -/
abbrev Word16 := BitVec 16

/-- `u32`: a running checksum (R25, R260). -/
abbrev Word32 := BitVec 32

end Sys2Proof
end

