-- ==== Sys2Proof/Machine/Store.lean ====
section
/-!
DEFINITION. The parts that `State` is made of (10_state.md), the live inputs and host calls
(00_scope.md R26, 10_state.md R57), and the types of the open parameters that speak of them
(`RegistryEntry` of R22 and R266). `Machine/State.lean` puts the parts together.
-/

namespace Sys2Proof.Machine

/-- `st.mode.pointer` (10_state.md R32). -/
inductive PointerMode where
  | off | relative | absolute | cursorKeys
deriving DecidableEq, Repr, Inhabited

/-- `st.mode.joystick` (10_state.md R33). -/
inductive JoystickMode where
  | off | auto | monitoring
deriving DecidableEq, Repr, Inhabited

/-- `st.mode` (10_state.md R32, R33). -/
structure Modes where
  pointer  : PointerMode
  joystick : JoystickMode
deriving DecidableEq, Repr, Inhabited

/-- `st.abs` (10_state.md R40, R41): position, inclusive maxima and the button nibble that the last
interrogation reported. -/
structure AbsPointer where
  x           : Word16
  y           : Word16
  maxX        : Word16
  maxY        : Word16
  prevButtons : Byte
deriving DecidableEq, Repr, Inhabited

/-- `st.rel.yAxis` (10_state.md R42): `+1` top origin or `-1` bottom origin, no other value. -/
inductive YAxis where
  | top | bottom
deriving DecidableEq, Repr, Inhabited

/-- `st.rel` (10_state.md R42, R43): configuration of the relative and cursor-key reports and the
pending motion, which is unbounded (92_eei_decisions.md D34). -/
structure RelPointer where
  xThr   : Byte
  yThr   : Byte
  xScale : Byte
  yScale : Byte
  keyDx  : Byte
  keyDy  : Byte
  yAxis  : YAxis
  action : Byte
  pendX  : Int
  pendY  : Int
deriving DecidableEq, Repr, Inhabited

/-- `st.joy[i]` (10_state.md R44): the current lane bitmask and the one last sent. -/
structure Lane where
  cur  : Byte
  sent : Byte
deriving DecidableEq, Repr, Inhabited

/-- One pointer button with its two sources (10_state.md R45). -/
structure Button where
  ptr : Bool
  joy : Bool
deriving DecidableEq, Repr, Inhabited

/-- `st.btn` (10_state.md R45, R46): both buttons and whether each was down at the previous edge
computation. -/
structure Buttons where
  l     : Button
  r     : Button
  prevL : Bool
  prevR : Bool
deriving DecidableEq, Repr, Inhabited

/-- `st.clock[0..5]` in order (10_state.md R47), each a packed-BCD byte. -/
structure Clock where
  year   : Byte
  month  : Byte
  day    : Byte
  hour   : Byte
  minute : Byte
  second : Byte
deriving DecidableEq, Repr, Inhabited

/-- `st.rt` (10_state.md R50, R52, R53): the reset countdown, the critical-window flag, the three
sticky flags and the "both" flag. -/
structure ResetTimer where
  count              : Nat
  inWindow           : Bool
  ptrDisabled        : Bool
  joyDisabled        : Bool
  ptrChangedInWindow : Bool
  both               : Bool
deriving DecidableEq, Repr, Inhabited

/-- An index of the registry: exactly 6 entries (00_scope.md R22, R25). -/
abbrev EntryIndex := Fin 6

/-- A registered program's own state `S` (10_state.md R55, 45_custom_program.md R266), coded as a
number so that `State` stays plain data (notes/assumptions/4.md). -/
abbrev LocalState := Nat

/-- The two levels of `Executing` (10_state.md R55). -/
inductive ExecStage where
  | boot (crc : Word32) (count : Nat)
  | main (entry : EntryIndex) (loc : LocalState)
deriving DecidableEq, Repr, Inhabited

/-- `st.phase` (10_state.md R55): what the next input byte means. -/
inductive Phase where
  | standard
  | loading (remaining : Nat) (dest : Word16) (crc : Word32)
  | bootMatched (entry : EntryIndex)
  | executing (stage : ExecStage)
deriving DecidableEq, Repr, Inhabited

/-- Why the refused mark `st.refused` is set (10_state.md R56, 60_exceptions.md R342). -/
inductive RefuseReason where
  /-- A command with no handler in the source (42_cmd_joystick.md R183 to R186). -/
  | noSourceHandler (opcode : Byte)
  /-- The body of a registered program refused (60_exceptions.md R342). -/
  | customProgram (entry : EntryIndex) (code : Nat)
  /-- A definition of `P_EXTRA_EVENTS` refused (60_exceptions.md R342). -/
  | extraEvents (code : Nat)
deriving DecidableEq, Repr, Inhabited

/-- One byte cell of the host-visible tables (20_memory.md R70): four key-code maps and four
joystick-bit maps of 16 entries each, and the default key-code table, whose size is open. -/
inductive TableCell where
  | keyMap (pad : Fin 4) (index : Fin 16)
  | joyMap (pad : Fin 4) (index : Fin 16)
  | defaultKey (index : Nat)
deriving DecidableEq, Repr, Inhabited

/-- The host-visible tables as data: the cells that differ from their initial contents, by cell
number, strictly rising (`Memory.wf`). -/
abbrev Memory := List Host.Cell

/-- The live inputs of one step (10_state.md R57): pointer delta, buttons (bit 0 left, bit 1 right),
wheel, and the two joystick registers. -/
structure LiveInputs where
  dx      : Int
  dy      : Int
  buttons : Byte
  wheel   : Int
  joy0    : Word16
  joy1    : Word16
deriving DecidableEq, Repr, Inhabited

/-- The consumption outputs of a tick (46_tick.md R289). -/
structure Consumption where
  dx        : Int
  dy        : Int
  wheelUsed : Int
deriving DecidableEq, Repr, Inhabited

/-- One call of the host (00_scope.md R26, R27, 60_exceptions.md R343), with the live inputs that
the step draws, or a write of the host to its tables between calls (20_memory.md R78). -/
inductive Call where
  /-- `submit(b)`, with the live joystick registers drawn for this step (42_cmd_joystick.md R182). -/
  | submit (b : Byte) (joy0 joy1 : Word16)
  /-- `tick()`, with the live inputs drawn for it. -/
  | tick (inp : LiveInputs)
  /-- `onKeyEvent(code)`. -/
  | keyEvent (code : Byte)
  /-- `reset(cold)`. -/
  | hwReset (cold : Bool)
  /-- The host writes one cell of its tables between two calls (20_memory.md R78). -/
  | hostWrite (cell : TableCell) (b : Byte)
deriving DecidableEq, Repr, Inhabited

/-- `View` of 45_custom_program.md R266: every field of `st` except `st.phase`. The other half of
the spec's view, `MemRead`, is passed beside it. -/
structure View where
  frame   : List Byte
  mode    : Modes
  paused  : Bool
  abs     : AbsPointer
  rel     : RelPointer
  joy0    : Lane
  joy1    : Lane
  btn     : Buttons
  clock   : Clock
  keys    : Vector Bool 128
  pad     : Vector Word16 4
  rt      : ResetTimer
  refused : Option RefuseReason
deriving DecidableEq, Repr

/-- What a registered program's write handler answers (45_custom_program.md R266), or the refusal
that its body makes (60_exceptions.md R342). -/
inductive WriteResult where
  | done (loc : LocalState) (out : List Byte) (exit : Bool)
  | refuse (code : Nat)
deriving DecidableEq, Repr, Inhabited

/-- The event that a read handler is run for (45_custom_program.md R266). -/
inductive ReadEvent where
  | tick (inp : LiveInputs)
  | key (code : Byte)
deriving DecidableEq, Repr, Inhabited

/-- What a registered program's read handler answers (45_custom_program.md R266), or its refusal. -/
inductive ReadResult where
  | done (loc : LocalState) (out : List Byte)
  | refuse (code : Nat)
deriving DecidableEq, Repr, Inhabited

/-- The value of `P_EXTRA_EVENTS` (00_scope.md R18): bytes, and the new last-sampled values of the
joypad bindings. -/
structure ExtraEvents where
  out  : List Byte
  last : Vector Word16 4
deriving DecidableEq, Repr, Inhabited

/-- What a definition of `P_EXTRA_EVENTS` answers: the value of R18, or a refusal that it makes
(60_exceptions.md R342). -/
inductive ExtraResult where
  | done (v : ExtraEvents)
  | refuse (code : Nat)
deriving DecidableEq, Repr, Inhabited

/-- A definition of `P_EXTRA_EVENTS`: of the engine state (its fields, its phase and its tables) and
the tick's inputs. -/
abbrev ExtraDefinition : Type := View → Phase → Memory → LiveInputs → ExtraResult

/-- One entry of `P_REGISTRY` (00_scope.md R22, 45_custom_program.md R266). -/
structure RegistryEntry where
  loadCrc : Word32
  mainLen : Int
  mainCrc : Word32
  init    : LocalState
  read    : Option (LocalState → View → (Word16 → Byte) → ReadEvent → ReadResult)
  write   : LocalState → Byte → View → (Word16 → Byte) → WriteResult
deriving Inhabited

end Sys2Proof.Machine
end

