-- ==== Sys2Proof/Config.lean ====
section
/-!
DEFINITION. What the spec leaves to the implementation with NO value: the parameters of 00_scope.md
marked OPEN. Each is a constant without a body, so that no proof can rest on its value: a theorem
that holds, holds for every value. `Machine/Params.lean` gives them the spec's names and their
constraints, and holds the parameters for which the spec states a value or a default.
-/

namespace Sys2Proof.Config

open Sys2Proof.Machine

/-- `P_FRAME_CAP` (00_scope.md R8): the capacity of the command buffer; ground: source. -/
def frameCap : Nat := 8

/-- `P_RESET_TICKS - 1` (00_scope.md R12: OPEN, at least 1). -/
opaque resetTicksLessOne : Nat

/-- `P_RESET_MAXX` (00_scope.md R13: OPEN). -/
opaque resetMaxX : Word16

/-- `P_RESET_MAXY` (00_scope.md R13: OPEN). -/
opaque resetMaxY : Word16

/-- `P_WHEEL_UP_KEY` (00_scope.md R17: OPEN, bit 7 clear). -/
opaque wheelUpKey : BitVec 7

/-- `P_WHEEL_DOWN_KEY` (00_scope.md R17: OPEN, bit 7 clear). -/
opaque wheelDownKey : BitVec 7

/-- `P_EXTRA_EVENTS` (00_scope.md R18: OPEN, any function), of the engine state (its fields, its phase
and its tables) and the tick's inputs. -/
opaque extraEvents : View → Phase → Memory → LiveInputs → ExtraEvents

/-- `P_JOY_SAMPLE` (00_scope.md R19: OPEN) before its result is confined to `JOY_MASK`. -/
opaque joySampleRaw : Word16 → Byte

/-- `P_MEMMAP` (00_scope.md R21, 20_memory.md R70: OPEN). -/
opaque memMap : Word16 → Option TableCell

/-- The initial contents of the host-visible tables, by cell number (92_eei_decisions.md D49: OPEN,
part of `P_MEMMAP`). -/
opaque tableInit : Nat → Byte

/-- `P_REGISTRY` (00_scope.md R22: OPEN), its 6 entries. -/
opaque registry : EntryIndex → RegistryEntry

end Sys2Proof.Config
end

