-- ==== Sys2Proof/Syntax.lean ====
section
/-!
DEFINITION. The commands of the default command table (30_encoding.md R100), one constructor per
row of spec/opcode_table.json, each with the parameters of its frame in frame order (R104).
-/

namespace Sys2Proof

/-- A command with its parameters. Bytes that the spec ignores (the filler of LOAD_POS, the rate of
JOY_MONITOR, the address of EXECUTE) are parameters too: they are bytes of the frame. -/
inductive Instr where
  | reset (magic : Byte)
  | setAction (a : Byte)
  | setRel
  | setAbs (maxX maxY : Word16)
  | setKeycode (keyDx keyDy : Byte)
  | setThresh (xThr yThr : Byte)
  | setScale (xScale yScale : Byte)
  | interrogateAbs
  | loadPos (filler : Byte) (x y : Word16)
  | yBottom
  | yTop
  | resume
  | disablePtr
  | pause
  | joyAuto
  | joyQmode
  | joyQuery
  | joyMonitor (rate : Byte)
  | fireMonitor
  | joyKeycode (a b c d e f : Byte)
  | disableJoy
  | setClock (year month day hour minute second : Byte)
  | readClock
  | memLoad (addr : Word16) (count : Byte)
  | memRead (addr : Word16)
  | execute (addr : Word16)
  | qAction
  | qPtrmode88
  | qPtrmode89
  | qPtrmode8A
  | qThresh
  | qScale
  | qYaxis8F
  | qYaxis90
  | qPtravail
  | qJoymode94
  | qJoymode95
  | qJoymode99
  | qJoyavail
deriving DecidableEq, Repr, Inhabited

/-- An entry of `P_CMD_TABLE` (00_scope.md R9): the opcode, the total length of the frame, and what
the parameter bytes of a complete frame stand for (`none` when their number is wrong). -/
structure CmdEntry where
  opcode      : Byte
  totalLength : Nat
  handler     : List Byte → Option Instr

end Sys2Proof
end

