-- ==== Sys2Proof/WellFormed.lean ====
section
/-!
DEFINITION. Well-formedness: of a command table (00_scope.md R9), of a command (its frame fits the
buffer, R8 and R9) and of the bytes waiting in the command buffer (10_state.md R61 item 1).
-/

namespace Sys2Proof

/-- 00_scope.md R9: every total length is between 1 and `P_FRAME_CAP`, and no two entries share an
opcode. -/
def tableWellFormed : List CmdEntry → Bool
  | [] => true
  | e :: es =>
    decide (1 ≤ e.totalLength) && decide (e.totalLength ≤ Config.frameCap)
      && es.all (fun d => d.opcode != e.opcode) && tableWellFormed es

/-- The total length of a command's frame (30_encoding.md R93, R100). -/
def Instr.totalLength : Instr → Nat
  | .reset _ => 2
  | .setAction _ => 2
  | .setRel => 1
  | .setAbs _ _ => 5
  | .setKeycode _ _ => 3
  | .setThresh _ _ => 3
  | .setScale _ _ => 3
  | .interrogateAbs => 1
  | .loadPos _ _ _ => 6
  | .yBottom => 1
  | .yTop => 1
  | .resume => 1
  | .disablePtr => 1
  | .pause => 1
  | .joyAuto => 1
  | .joyQmode => 1
  | .joyQuery => 1
  | .joyMonitor _ => 2
  | .fireMonitor => 1
  | .joyKeycode _ _ _ _ _ _ => 7
  | .disableJoy => 1
  | .setClock _ _ _ _ _ _ => 7
  | .readClock => 1
  | .memLoad _ _ => 4
  | .memRead _ => 3
  | .execute _ => 3
  | .qAction => 1
  | .qPtrmode88 => 1
  | .qPtrmode89 => 1
  | .qPtrmode8A => 1
  | .qThresh => 1
  | .qScale => 1
  | .qYaxis8F => 1
  | .qYaxis90 => 1
  | .qPtravail => 1
  | .qJoymode94 => 1
  | .qJoymode95 => 1
  | .qJoymode99 => 1
  | .qJoyavail => 1

/-- A command is well-formed when its frame fits the command buffer. The parameters' types are
exactly as wide as their bytes, so this is all there is to check. -/
def Instr.wellFormed (i : Instr) : Bool :=
  decide (1 ≤ i.totalLength) && decide (i.totalLength ≤ Config.frameCap)

/-- 10_state.md R61 item 1, for the buffer between two calls: it is not over capacity, and when it
is not empty its first byte is an opcode of the table whose frame is longer. -/
def frameWellFormed (table : List CmdEntry) (frame : List Byte) : Bool :=
  decide (frame.length ≤ Config.frameCap) &&
    match frame with
    | [] => true
    | op :: _ =>
      match table.find? (fun e => e.opcode == op) with
      | some e => decide (frame.length < e.totalLength)
      | none => false

end Sys2Proof
end

