-- ==== Sys2Proof/Decode.lean ====
section
/-!
DEFINITION. The default command table, the decoder and the encoder (30_encoding.md R90 to R102).
A decoder tells a frame's length from its first byte alone (R91); what comes after the frame is
handed back. The table's values are general-knowledge defaults (R100): notes/assumptions/1.md.
-/

namespace Sys2Proof

/-- `u16(hi, lo)` (00_scope.md R6): the first byte is the most significant. -/
def u16 (hi lo : Byte) : Word16 := hi ++ lo

/-- `v[15:8]`. -/
def hiByte (v : Word16) : Byte := v.extractLsb' 8 8

/-- `v[7:0]`. -/
def loByte (v : Word16) : Byte := v.extractLsb' 0 8

/-! The frame formats of R93: what the parameter bytes of a complete frame stand for. -/

/-- `F1`: `o`. -/
def formatF1 (k : Instr) : List Byte → Option Instr
  | [] => some k
  | _ => none

/-- `F2`: `o a`. -/
def formatF2 (k : Byte → Instr) : List Byte → Option Instr
  | [a] => some (k a)
  | _ => none

/-- `F3`: `o a b`. -/
def formatF3 (k : Byte → Byte → Instr) : List Byte → Option Instr
  | [a, b] => some (k a b)
  | _ => none

/-- `F3W`: `o Hhi Hlo`. -/
def formatF3W (k : Word16 → Instr) : List Byte → Option Instr
  | [h, l] => some (k (u16 h l))
  | _ => none

/-- `F4W`: `o Hhi Hlo a`. -/
def formatF4W (k : Word16 → Byte → Instr) : List Byte → Option Instr
  | [h, l, a] => some (k (u16 h l) a)
  | _ => none

/-- `F5W`: `o Ahi Alo Bhi Blo`. -/
def formatF5W (k : Word16 → Word16 → Instr) : List Byte → Option Instr
  | [ah, al, bh, bl] => some (k (u16 ah al) (u16 bh bl))
  | _ => none

/-- `F6W`: `o filler Ahi Alo Bhi Blo`. -/
def formatF6W (k : Byte → Word16 → Word16 → Instr) : List Byte → Option Instr
  | [filler, ah, al, bh, bl] => some (k filler (u16 ah al) (u16 bh bl))
  | _ => none

/-- `F7`: `o a b c d e f`. -/
def formatF7 (k : Byte → Byte → Byte → Byte → Byte → Byte → Instr) : List Byte → Option Instr
  | [a, b, c, d, e, f] => some (k a b c d e f)
  | _ => none

/-- Rows 1 to 26 of R100: the commands. -/
def commandRows : List CmdEntry :=
  [ ⟨0x80, 2, formatF2 .reset⟩,
    ⟨0x07, 2, formatF2 .setAction⟩,
    ⟨0x08, 1, formatF1 .setRel⟩,
    ⟨0x09, 5, formatF5W .setAbs⟩,
    ⟨0x0A, 3, formatF3 .setKeycode⟩,
    ⟨0x0B, 3, formatF3 .setThresh⟩,
    ⟨0x0C, 3, formatF3 .setScale⟩,
    ⟨0x0D, 1, formatF1 .interrogateAbs⟩,
    ⟨0x0E, 6, formatF6W .loadPos⟩,
    ⟨0x0F, 1, formatF1 .yBottom⟩,
    ⟨0x10, 1, formatF1 .yTop⟩,
    ⟨0x11, 1, formatF1 .resume⟩,
    ⟨0x12, 1, formatF1 .disablePtr⟩,
    ⟨0x13, 1, formatF1 .pause⟩,
    ⟨0x14, 1, formatF1 .joyAuto⟩,
    ⟨0x15, 1, formatF1 .joyQmode⟩,
    ⟨0x16, 1, formatF1 .joyQuery⟩,
    ⟨0x17, 2, formatF2 .joyMonitor⟩,
    ⟨0x18, 1, formatF1 .fireMonitor⟩,
    ⟨0x19, 7, formatF7 .joyKeycode⟩,
    ⟨0x1A, 1, formatF1 .disableJoy⟩,
    ⟨0x1B, 7, formatF7 .setClock⟩,
    ⟨0x1C, 1, formatF1 .readClock⟩,
    ⟨0x20, 4, formatF4W .memLoad⟩,
    ⟨0x21, 3, formatF3W .memRead⟩,
    ⟨0x22, 3, formatF3W .execute⟩ ]

/-- Rows 27 to 39 of R100: the report-current-setting variants. -/
def reportRows : List CmdEntry :=
  [ ⟨0x87, 1, formatF1 .qAction⟩,
    ⟨0x88, 1, formatF1 .qPtrmode88⟩,
    ⟨0x89, 1, formatF1 .qPtrmode89⟩,
    ⟨0x8A, 1, formatF1 .qPtrmode8A⟩,
    ⟨0x8B, 1, formatF1 .qThresh⟩,
    ⟨0x8C, 1, formatF1 .qScale⟩,
    ⟨0x8F, 1, formatF1 .qYaxis8F⟩,
    ⟨0x90, 1, formatF1 .qYaxis90⟩,
    ⟨0x92, 1, formatF1 .qPtravail⟩,
    ⟨0x94, 1, formatF1 .qJoymode94⟩,
    ⟨0x95, 1, formatF1 .qJoymode95⟩,
    ⟨0x99, 1, formatF1 .qJoymode99⟩,
    ⟨0x9A, 1, formatF1 .qJoyavail⟩ ]

/-- `P_CMD_TABLE` (00_scope.md R9) at its default, the table of 30_encoding.md R100 in its order. -/
def cmdTable : List CmdEntry := commandRows ++ reportRows

/-- The first entry of the table, in table order, with this opcode (40_framer.md R132, R140). -/
def lookup (op : Byte) : Option CmdEntry := cmdTable.find? (fun e => e.opcode == op)

/-- What the decoder makes of a list of bytes. -/
inductive Decoded where
  /-- The bytes begin with a complete frame of this command, and `rest` follows it. -/
  | command (i : Instr) (rest : List Byte)
  /-- The first byte matches no table entry (30_encoding.md R102). -/
  | unknownOpcode (op : Byte)
  /-- The first byte's frame is longer than the bytes there are (40_framer.md R134). -/
  | incomplete (totalLength : Nat)
  /-- There is no byte at all. -/
  | noByte
deriving DecidableEq, Repr

/-- The decoder: total on any bytes, and it never looks at a parameter to decide the length (R91). -/
def decode : List Byte → Decoded
  | [] => .noByte
  | op :: ps =>
    match lookup op with
    | none => .unknownOpcode op
    | some e =>
      if ps.length + 1 < e.totalLength then .incomplete e.totalLength
      else
        match e.handler (ps.take (e.totalLength - 1)) with
        | some i => .command i (ps.drop (e.totalLength - 1))
        | none => .incomplete e.totalLength

/-- The frame of a command (R93, R100, R104). -/
def encode : Instr → List Byte
  | .reset m => [0x80, m]
  | .setAction a => [0x07, a]
  | .setRel => [0x08]
  | .setAbs mx my => [0x09, hiByte mx, loByte mx, hiByte my, loByte my]
  | .setKeycode a b => [0x0A, a, b]
  | .setThresh a b => [0x0B, a, b]
  | .setScale a b => [0x0C, a, b]
  | .interrogateAbs => [0x0D]
  | .loadPos fl x y => [0x0E, fl, hiByte x, loByte x, hiByte y, loByte y]
  | .yBottom => [0x0F]
  | .yTop => [0x10]
  | .resume => [0x11]
  | .disablePtr => [0x12]
  | .pause => [0x13]
  | .joyAuto => [0x14]
  | .joyQmode => [0x15]
  | .joyQuery => [0x16]
  | .joyMonitor r => [0x17, r]
  | .fireMonitor => [0x18]
  | .joyKeycode a b c d e f => [0x19, a, b, c, d, e, f]
  | .disableJoy => [0x1A]
  | .setClock a b c d e f => [0x1B, a, b, c, d, e, f]
  | .readClock => [0x1C]
  | .memLoad a n => [0x20, hiByte a, loByte a, n]
  | .memRead a => [0x21, hiByte a, loByte a]
  | .execute a => [0x22, hiByte a, loByte a]
  | .qAction => [0x87]
  | .qPtrmode88 => [0x88]
  | .qPtrmode89 => [0x89]
  | .qPtrmode8A => [0x8A]
  | .qThresh => [0x8B]
  | .qScale => [0x8C]
  | .qYaxis8F => [0x8F]
  | .qYaxis90 => [0x90]
  | .qPtravail => [0x92]
  | .qJoymode94 => [0x94]
  | .qJoymode95 => [0x95]
  | .qJoymode99 => [0x99]
  | .qJoyavail => [0x9A]

/-- The bytes of a word of spec/opcode_table.json, first byte first: byte `k` is bits `8k+7 .. 8k`,
every bit from `nbits` on is 0, and there are as many bytes as the longest frame has. -/
def tableBytes (nbits w : Nat) : List Byte :=
  [0, 1, 2, 3, 4, 5, 6].map (fun k => BitVec.ofNat 8 ((w % 2 ^ nbits) / 2 ^ (8 * k)))

/-- The command that the decoder reads from a word numbered as spec/opcode_table.json numbers it. -/
def decodeTableWord (nbits w : Nat) : Option Instr :=
  match decode (tableBytes nbits w) with
  | .command i _ => some i
  | _ => none

end Sys2Proof
end

