-- ==== Sys2Proof/Machine/Params.lean ====
section
/-!
DEFINITION. The parameters of 00_scope.md under the spec's names. Those the spec leaves OPEN are the
bodiless constants of `Config` with the spec's constraint put on them; those it gives a value or a
default (R10, R11, R14 to R16, R20, R23, R24) hold it (notes/assumptions/2.md).
-/

namespace Sys2Proof.Machine

/-- `P_RESET_MAGIC` (R10). -/
def resetMagic : Byte := 0x01

/-- `P_BOOT_BYTE` (R11). -/
def bootByte : Byte := 0xF1

/-- `P_RESET_TICKS` (R12): OPEN, at least 1. -/
def resetTicks : Nat := Nat.succ Config.resetTicksLessOne

/-- `P_RESET_MAXX` (R13): OPEN. -/
def resetMaxX : Word16 := Config.resetMaxX

/-- `P_RESET_MAXY` (R13): OPEN. -/
def resetMaxY : Word16 := Config.resetMaxY

/-- `P_CURSOR_CAP` (R14). -/
def cursorCap : Nat := 10

/-- `P_BTNKEY_SKIP` (R15): the tick steps skipped when step 4 is taken. -/
def btnKeySkip : List Nat := [6, 7]

/-! Press codes of synthetic key events (R16). -/

/-- `P_KEY_LBUTTON` (R16). -/
def keyLButton : Byte := 0x74

/-- `P_KEY_RBUTTON` (R16). -/
def keyRButton : Byte := 0x75

/-- `P_KEY_UP` (R16). -/
def keyUp : Byte := 0x48

/-- `P_KEY_DOWN` (R16). -/
def keyDown : Byte := 0x50

/-- `P_KEY_LEFT` (R16). -/
def keyLeft : Byte := 0x4B

/-- `P_KEY_RIGHT` (R16). -/
def keyRight : Byte := 0x4D

/-- `P_WHEEL_UP_KEY` (R17): OPEN, bit 7 clear. -/
def wheelUpKey : Byte := Config.wheelUpKey.zeroExtend 8

/-- `P_WHEEL_DOWN_KEY` (R17): OPEN, bit 7 clear. -/
def wheelDownKey : Byte := Config.wheelDownKey.zeroExtend 8

/-- `JOY_FIRE` (R24). -/
def joyFire : Byte := 0x80

/-- `JOY_UP` (R24). -/
def joyUp : Byte := 0x01

/-- `JOY_DOWN` (R24). -/
def joyDown : Byte := 0x02

/-- `JOY_LEFT` (R24). -/
def joyLeft : Byte := 0x04

/-- `JOY_RIGHT` (R24). -/
def joyRight : Byte := 0x08

/-- `JOY_MASK` (R19): the lane bits, `0x8F`. -/
def joyMask : Byte := joyFire ||| joyRight ||| joyLeft ||| joyDown ||| joyUp

/-- `P_JOY_SAMPLE` (R19): OPEN, only bits of `JOY_MASK` set. -/
def joySample (reg : Word16) : Byte := Config.joySampleRaw reg &&& joyMask

/-- `P_ABS_SCALE` (R20): the absolute units that a live delta moves at a given scale. -/
def absScale (delta : Int) (scale : Byte) : Int :=
  if scale.toNat ≤ 1 then delta else delta.tdiv scale.toNat

/-- `ACTION_KEYS` (R24). -/
def actionKeys : Byte := 0x04

/-- `REL_LBIT` (R24). -/
def relLBit : Byte := 0x02

/-- `REL_RBIT` (R24). -/
def relRBit : Byte := 0x01

/-- `P_HDR_REL` (R23). -/
def hdrRel : Byte := 0xF8

/-- `P_HDR_JOY0` (R23). -/
def hdrJoy0 : Byte := 0xFE

/-- `P_HDR_JOY1` (R23). -/
def hdrJoy1 : Byte := 0xFF

/-- `P_HDR_ABS` (R23). -/
def hdrAbs : Byte := 0xF7

/-- `P_HDR_CLOCK` (R23). -/
def hdrClock : Byte := 0xFC

/-- `P_HDR_STATUS` (R23). -/
def hdrStatus : Byte := 0xF6

/-- `P_MEMREAD_TAG` (R23). -/
def memReadTag : Byte := 0x20

end Sys2Proof.Machine
end

