-- ==== Sys2Proof/Machine/State.lean ====
section
/-!
DEFINITION. The state of the engine (10_state.md), what its steps may stop with, and the state
right after reset.
-/

namespace Sys2Proof.Machine

/-- The engine's whole state: `st` of 10_state.md, the host-visible tables of 20_memory.md R70, and
four fields of the model's own that carry what crosses the ports of 00_scope.md R26. -/
structure State where
  /-- `st.frame`, oldest byte first (R31). -/
  frame    : List Byte
  /-- `st.mode` (R32, R33). -/
  mode     : Modes
  /-- `st.paused` (R34). -/
  paused   : Bool
  /-- `st.abs` (R40, R41). -/
  abs      : AbsPointer
  /-- `st.rel` (R42, R43). -/
  rel      : RelPointer
  /-- `st.joy[0]` (R44). -/
  joy0     : Lane
  /-- `st.joy[1]` (R44). -/
  joy1     : Lane
  /-- `st.btn` (R45, R46). -/
  btn      : Buttons
  /-- `st.clock` (R47). -/
  clock    : Clock
  /-- `st.keys` (R48). -/
  keys     : Vector Bool 128
  /-- `st.pad[k].last` (R49). -/
  pad      : Vector Word16 4
  /-- `st.rt` (R50, R52, R53). -/
  rt       : ResetTimer
  /-- `st.phase` (R55). -/
  phase    : Phase
  /-- `st.refused` (R56). -/
  refused  : Option RefuseReason
  /-- The host-visible tables (20_memory.md R70; the joypad maps of R49). -/
  mem      : Memory
  /-- The model's own: the host's calls still to be made, in the order the host makes them (R27). -/
  calls    : List Call
  /-- The model's own: the live inputs drawn for the step in progress (R57). -/
  live     : LiveInputs
  /-- The model's own: the output stream, oldest byte first (00_scope.md R7, R28). -/
  out      : List Byte
  /-- The model's own: the consumption outputs of the latest tick (46_tick.md R289). -/
  consumed : Consumption
deriving DecidableEq, Repr

/-- The engine has no fault: "No exceptions/aborts are used", every condition is a local state
transition (60_exceptions.md R340). So there is no constructor, and no step can answer a fault. -/
inductive Fault where
deriving DecidableEq, Repr

/-- Why the model has no next state (60_exceptions.md R342). The three reasons of the spec carry the
state with the refused mark set (00_scope.md R7, 10_state.md R56). -/
inductive Refusal where
  /-- Raised by `exec` for an instruction that the model gives no meaning; no arm does. Safe. -/
  | notModelled (mnemonic : String)
  /-- Raised by the meanings of JOY_QMODE, JOY_QUERY, FIRE_MONITOR and JOY_KEYCODE, for which the
  spec has no handler (42_cmd_joystick.md R183 to R186). Safe: nothing is claimed beyond it. -/
  | noSourceHandler (opcode : Byte) (marked : State)
  /-- Raised by the body of a registered program, which is a parameter of the model and may refuse
  (60_exceptions.md R342). Safe: nothing is claimed beyond it. -/
  | customProgram (entry : EntryIndex) (code : Nat) (marked : State)
  /-- Raised in tick step 10 by a definition of `P_EXTRA_EVENTS` that makes a refusal
  (60_exceptions.md R342); the machine's `tick` runs R18's function, which makes none (46_tick.md
  R280). Safe: nothing is claimed beyond it. -/
  | extraEvents (code : Nat) (marked : State)
deriving DecidableEq, Repr

/-- A clock of six zero bytes: after a cold reset (R47). -/
def clockZero : Clock := ⟨0x00, 0x00, 0x00, 0x00, 0x00, 0x00⟩

/-- Live inputs at rest. -/
def liveZero : LiveInputs := ⟨0, 0, 0x00, 0, 0x0000, 0x0000⟩

/-- Nothing consumed (46_tick.md R289). -/
def consumedZero : Consumption := ⟨0, 0, 0⟩

/-- `st.rt` after any reset (R60). -/
def rtReset : ResetTimer := ⟨resetTicks, true, false, false, false, false⟩

/-- The state at power-on, which is the state after `reset(cold = true)` with no refused mark
(10_state.md R60, 70_reset_and_hazards.md R371). The tables hold their initial contents, no host call
is waiting, nothing has been emitted. -/
def State.reset : State where
  frame    := []
  mode     := ⟨.relative, .auto⟩
  paused   := false
  abs      := ⟨0, 0, resetMaxX, resetMaxY, 0x0A⟩
  rel      := ⟨1, 1, 1, 1, 1, 1, .top, 0x00, 0, 0⟩
  joy0     := ⟨0x00, 0x00⟩
  joy1     := ⟨0x00, 0x00⟩
  btn      := ⟨⟨false, false⟩, ⟨false, false⟩, false, false⟩
  clock    := clockZero
  keys     := Vector.replicate 128 false
  pad      := Vector.replicate 4 0
  rt       := rtReset
  phase    := .standard
  refused  := none
  mem      := []
  calls    := []
  live     := liveZero
  out      := []
  consumed := consumedZero

end Sys2Proof.Machine
end

