-- ==== Sys2Proof/Machine/Operands.lean ====
section
/-!
DEFINITION. The arithmetic of 00_scope.md R6 that commands and ticks apply to their operands, and the
accessors by which custom programs read the state (45_custom_program.md R266).
-/

namespace Sys2Proof.Machine

/-- One outcome of a step of the engine. -/
abbrev Outcome := Host.Outcome State Fault Refusal

/-- `clamp(v, lo, hi) = min(max(v, lo), hi)` (R6). -/
def clamp (v lo hi : Int) : Int := min (max v lo) hi

/-- `byte(v) = v mod 256` (R6). -/
def byteOf (v : Int) : Byte := BitVec.ofInt 8 v

/-- `max1(v) = max(v, 1)` (R6), on a byte. -/
def max1 (v : Byte) : Byte := if v = 0 then 1 else v

/-- `clamp(v, 0, hi)` as a coordinate (41_cmd_pointer.md R158, 46_tick.md R288). -/
def clampCoord (v : Int) (hi : Word16) : Word16 := BitVec.ofNat 16 (clamp v 0 hi.toNat).toNat

/-- The smaller of two coordinates (41_cmd_pointer.md R152). -/
def minCoord (a b : Word16) : Word16 := if a.toNat ≤ b.toNat then a else b

/-- The direction as the number that multiplies Y (10_state.md R42). -/
def YAxis.sign : YAxis → Int
  | .top => 1
  | .bottom => -1

/-- Both halves of the byte are 0 to 9 (00_scope.md glossary "BCD", 43_cmd_system.md R203). -/
def isBcd (b : Byte) : Bool := decide (b.toNat / 16 ≤ 9) && decide (b.toNat % 16 ≤ 9)

/-- One byte of SET_CLOCK: stored if it is BCD, else dropped (43_cmd_system.md R203). -/
def storeBcd (old new : Byte) : Byte := if isBcd new then new else old

/-- `st.clock[0..5]` in order (10_state.md R47). -/
def Clock.bytes (c : Clock) : List Byte := [c.year, c.month, c.day, c.hour, c.minute, c.second]

/-- The release code of a press code: bit 7 set (30_encoding.md R118). -/
def releaseOf (k : Byte) : Byte := k ||| 0x80

/-- The two bytes of a synthetic press and release (30_encoding.md R118). -/
def keyPair (k : Byte) : List Byte := [k, releaseOf k]

/-- The code of a key that is down or up (46_tick.md R286). -/
def keyCode (down : Bool) (k : Byte) : Byte := if down then k else releaseOf k

/-- Key code to key number: `code & 0x7F` (47_host_events.md R330). -/
def keyIndex (code : Byte) : Fin 128 := (code.extractLsb' 0 7).toFin

/-- A press code has bit 7 clear (30_encoding.md R118, 47_host_events.md R330). -/
def isPress (code : Byte) : Bool := !code.msb

/-- The number of a table cell in `Memory`: the four key-code maps, then the four joystick-bit maps,
then the default key-code table. The numbers are the model's own; only their difference matters. -/
def TableCell.key : TableCell → Nat
  | .keyMap p i => 16 * p.val + i.val
  | .joyMap p i => 64 + 16 * p.val + i.val
  | .defaultKey i => 128 + i

/-- `P_MEMMAP` (00_scope.md R21, 20_memory.md R70): the cell an address names, if it is mapped. -/
def memMap (a : Word16) : Option TableCell := Config.memMap a

/-- The initial contents of a cell, which is what a cell not listed in `Memory` reads as. -/
def tableInit (k : Nat) : Byte := Config.tableInit k

/-- `P_REGISTRY[e]` (00_scope.md R22). -/
def registry (e : EntryIndex) : RegistryEntry := Config.registry e

/-- `P_EXTRA_EVENTS` (00_scope.md R18). -/
def extraEventsOf (v : View) (p : Phase) (tables : Memory) (inp : LiveInputs) : ExtraEvents :=
  Config.extraEvents v p tables inp

/-- The definition of `P_EXTRA_EVENTS` that the machine runs: R18's function, which has a value for
every state and input and so makes no refusal (46_tick.md R280). -/
def extraDefinition : ExtraDefinition := fun v p tables inp => .done (extraEventsOf v p tables inp)

/-- `view(st)`: every field of `st` except the phase (45_custom_program.md R266). -/
def State.view (s : State) : View where
  frame   := s.frame
  mode    := s.mode
  paused  := s.paused
  abs     := s.abs
  rel     := s.rel
  joy0    := s.joy0
  joy1    := s.joy1
  btn     := s.btn
  clock   := s.clock
  keys    := s.keys
  pad     := s.pad
  rt      := s.rt
  refused := s.refused

end Sys2Proof.Machine
end

