-- ==== Sys2Proof/Machine/Flags.lean ====
section
/-!
DEFINITION. The boolean conditions and bit fields that reports are made of. The engine has no
condition flags (40_framer.md, template); this file holds what stands in their place: button states,
button edges, the interrogation nibble, the header bits and the joystick bits.
-/

namespace Sys2Proof.Machine

/-- A button is down when either source says so (10_state.md R45). -/
def Button.down (b : Button) : Bool := b.ptr || b.joy

/-- The locals `Ldown, Rdown, edgeL, edgeR` of one tick (46_tick.md R280, R285). -/
structure Edges where
  lDown : Bool
  rDown : Bool
  edgeL : Bool
  edgeR : Bool
deriving DecidableEq, Repr

/-- `ComputeEdges`, its four locals (46_tick.md R285). -/
def Buttons.edges (b : Buttons) : Edges where
  lDown := b.l.down
  rDown := b.r.down
  edgeL := b.l.down != b.prevL
  edgeR := b.r.down != b.prevR

/-- The absolute button state nibble (30_encoding.md R113): bit 0 right down, bit 1 right up, bit 2
left down, bit 3 left up. -/
def stateNibble (lDown rDown : Bool) : Byte :=
  (if rDown then 0x01 else 0x02) ||| (if lDown then 0x04 else 0x08)

/-- The absolute edge nibble (30_encoding.md R113): conditions that hold now and did not before. -/
def edgeNibble (s prev : Byte) : Byte := s &&& ~~~prev &&& 0x0F

/-- `RelHeader` (46_tick.md R296, 30_encoding.md R110). -/
def relHeader (lDown rDown : Bool) : Byte :=
  hdrRel ||| (if lDown then relLBit else 0x00) ||| (if rDown then relRBit else 0x00)

/-- The fire bit of a lane bitmask. -/
def fireOf (mask : Byte) : Bool := (mask &&& joyFire) != 0

/-- First byte of the monitoring packet (30_encoding.md R117). -/
def monitorFire (m0 m1 : Byte) : Byte :=
  (if fireOf m0 then 0x02 else 0x00) ||| (if fireOf m1 then 0x01 else 0x00)

/-- Second byte of the monitoring packet (30_encoding.md R117). -/
def monitorDirs (m0 m1 : Byte) : Byte := ((m0 &&& 0x0F) <<< 4) ||| (m1 &&& 0x0F)

/-- The path of step 4 is taken when `ACTION_KEYS` is set and a button edge occurred
(46_tick.md R286, R287). -/
def keysTaken (action : Byte) (e : Edges) : Bool :=
  (action &&& actionKeys) != 0 && (e.edgeL || e.edgeR)

/-- `n ∈ Skip(keysTaken)` (46_tick.md R280, R287). -/
def skipped (taken : Bool) (n : Nat) : Bool := taken && btnKeySkip.contains n

/-- The codes of the button edges of a tick, left before right (46_tick.md R286, R299). -/
def buttonCodes (e : Edges) : List Byte :=
  (if e.edgeL then [keyCode e.lDown keyLButton] else [])
    ++ (if e.edgeR then [keyCode e.rDown keyRButton] else [])

end Sys2Proof.Machine
end

