-- ==== Sys2Proof/Machine/Ops.lean ====
section
/-!
DEFINITION. The operations that commands, ticks and events share: emission and its gate
(00_scope.md R7), the controller address space (20_memory.md), reset (47_host_events.md R331), the
critical-window procedures (41_cmd_pointer.md R153, R162) and refusal (00_scope.md R7).

Taking an exception and returning from one: the engine has neither (60_exceptions.md R340, R346,
R347), so no such operation exists here.
-/

namespace Sys2Proof.Machine

/-! ## Emission -/

/-- `emit` for each byte of `bs` in turn: appended to the output stream unconditionally (R7). -/
def State.emit (bs : List Byte) (s : State) : State := { s with out := s.out ++ bs }

/-- `emitR` for each byte of `bs` in turn: emitted unless paused (R7, 46_tick.md R302). -/
def State.emitR (bs : List Byte) (s : State) : State :=
  { s with out := if s.paused then s.out else s.out ++ bs }

/-! ## The host-visible tables and the controller address space -/

/-- The byte in cell `k`: the listed one, else the cell's initial contents. -/
def Memory.read : Memory → Nat → Byte
  | [], k => tableInit k
  | (k', b) :: m, k => if k' = k then b else Memory.read m k

/-- Cell `k` set to `b`, keeping the canonical form: cells strictly rising, and a cell that again
holds its initial contents not listed. -/
def Memory.write : Memory → Nat → Byte → Memory
  | [], k, b => if b = tableInit k then [] else [(k, b)]
  | (k', b') :: m, k, b =>
    if k < k' then (if b = tableInit k then (k', b') :: m else (k, b) :: (k', b') :: m)
    else if k' = k then (if b = tableInit k then m else (k, b) :: m)
    else (k', b') :: Memory.write m k b

/-- Every cell number of the list is above `k`. -/
def Memory.above (k : Nat) (m : Memory) : Bool := m.all (fun c => decide (k < c.1))

/-- The canonical form: cells strictly rising, none listed with its initial contents. -/
def Memory.wf : Memory → Bool
  | [] => true
  | (k, b) :: m => (b != tableInit k) && Memory.above k m && Memory.wf m

/-- `MemRead(a, 1)` (20_memory.md R71): an unmapped address reads as zero. -/
def State.memRead (s : State) (a : Word16) : Byte :=
  match memMap a with
  | some c => s.mem.read c.key
  | none => 0x00

/-- `MemWrite(a, 1, v)` (20_memory.md R71): a write to an unmapped address is discarded. -/
def State.memWrite (a : Word16) (b : Byte) (s : State) : State :=
  { s with mem := match memMap a with
                  | some c => s.mem.write c.key b
                  | none => s.mem }

/-- The host writes a cell of its tables between two calls (20_memory.md R78). -/
def State.tableWrite (c : TableCell) (b : Byte) (s : State) : State :=
  { s with mem := s.mem.write c.key b }

/-! ## Reset -/

/-- `EngineReset(cold)` (47_host_events.md R331, 10_state.md R60): every field of `st` but the clock
and the refused mark takes its reset value, and the clock too when cold. The tables are not changed
(92_eei_decisions.md D49) and nothing is emitted. -/
def engineReset (cold : Bool) (s : State) : State :=
  { State.reset with
    clock    := if cold then clockZero else s.clock
    refused  := s.refused
    mem      := s.mem
    calls    := s.calls
    live     := s.live
    out      := s.out
    consumed := s.consumed }

/-! ## The critical window -/

/-- `NotePtrChange` (41_cmd_pointer.md R153): inside the window the sticky flag is set. -/
def notePtrChange (s : State) : State :=
  { s with rt := { s.rt with
      ptrChangedInWindow := s.rt.ptrChangedInWindow || s.rt.inWindow } }

/-- `DualDisableCheck` (41_cmd_pointer.md R162): with both disabled flags set inside the window,
both devices are enabled again and the "both" flag is set. -/
def dualDisableCheck (s : State) : State :=
  if s.rt.ptrDisabled && s.rt.joyDisabled && s.rt.inWindow then
    { s with mode := ⟨.relative, .auto⟩, rt := { s.rt with both := true } }
  else s

/-! ## Joystick lanes -/

/-- Both lanes take the sample of their live register (46_tick.md R283, 42_cmd_joystick.md R182). -/
def sampleLanes (s : State) : State :=
  { s with
    joy0 := { s.joy0 with cur := joySample s.live.joy0 }
    joy1 := { s.joy1 with cur := joySample s.live.joy1 } }

/-- The change packet of a lane, when its bitmask differs from the one last sent
(30_encoding.md R111, 46_tick.md R291). -/
def lanePacket (hdr : Byte) (l : Lane) : List Byte :=
  if l.cur = l.sent then [] else [hdr, l.cur]

/-- The change packets of both lanes, lane 0 first (46_tick.md R291). -/
def lanePackets (s : State) : List Byte :=
  lanePacket hdrJoy0 s.joy0 ++ lanePacket hdrJoy1 s.joy1

/-- `sent` brought up to date in both lanes, whether or not the packets got out (46_tick.md R291,
92_eei_decisions.md D15). -/
def lanesSent (s : State) : State :=
  { s with
    joy0 := { s.joy0 with sent := s.joy0.cur }
    joy1 := { s.joy1 with sent := s.joy1.cur } }

/-! ## Refusal -/

/-- The state with the refused mark set (10_state.md R56). -/
def State.marked (r : RefuseReason) (s : State) : State := { s with refused := some r }

/-- `refuse` in the handler of a command that the spec has no handler for: the frame is consumed,
the mark is set and the step ends (42_cmd_joystick.md, "Commands without a source handler";
00_scope.md R7). -/
def refuseNoHandler (opcode : Byte) (s : State) : Outcome :=
  .refused (.noSourceHandler opcode
    (State.marked (.noSourceHandler opcode) { s with frame := [] }))

/-- `refuse` in the body of a registered program (60_exceptions.md R342). -/
def refuseCustom (e : EntryIndex) (code : Nat) (s : State) : Outcome :=
  .refused (.customProgram e code (State.marked (.customProgram e code) s))

/-- `refuse` in a definition of `P_EXTRA_EVENTS` (60_exceptions.md R342). -/
def refuseExtra (code : Nat) (s : State) : Outcome :=
  .refused (.extraEvents code (State.marked (.extraEvents code) s))

/-- Sequencing: a refusal ends the step (00_scope.md R7). -/
def andThen (o : Outcome) (f : State → Outcome) : Outcome :=
  match o with
  | .next s => f s
  | .fault r => .fault r
  | .refused r => .refused r

end Sys2Proof.Machine
end

