-- ==== Sys2Proof/Machine/Joystick.lean ====
section
/-!
DEFINITION. The joystick commands (42_cmd_joystick.md), the four that the spec refuses among them.
-/

namespace Sys2Proof.Machine

/-- `SampleAndSend` (R182): both lanes are sampled from the live registers drawn for this step, then
reported through `emit`. -/
def sampleAndSend (s : State) : State :=
  lanesSent ((sampleLanes s).emit (lanePackets (sampleLanes s)))

/-- The force-enable of JOY_AUTO (R180): inside the window, after a pointer mode command there. -/
def joyAutoQuirk (s : State) : State :=
  if s.rt.inWindow && s.rt.ptrChangedInWindow then
    { s with mode := { s.mode with pointer := .relative }, rt := { s.rt with both := true } }
  else s

/-- JOY_AUTO (R180). -/
def execJoyAuto (s : State) : Outcome :=
  .next (sampleAndSend (joyAutoQuirk { s with mode := { s.mode with joystick := .auto } }))

/-- JOY_MONITOR (R181): the rate byte is ignored and not stored. -/
def execJoyMonitor (_rate : Byte) (s : State) : Outcome :=
  .next { s with mode := { s.mode with joystick := .monitoring } }

/-- DISABLE_JOY (R187): joystick Off, the sticky flag, then the dual-disable check. -/
def execDisableJoy (s : State) : Outcome :=
  .next (dualDisableCheck
    { s with
      mode := { s.mode with joystick := .off }
      rt   := { s.rt with joyDisabled := true } })

/-- JOY_QMODE (R183): "no handler in source". -/
def execJoyQmode (s : State) : Outcome := refuseNoHandler 0x15 s

/-- JOY_QUERY (R184): "no handler in source". -/
def execJoyQuery (s : State) : Outcome := refuseNoHandler 0x16 s

/-- FIRE_MONITOR (R185): "no handler in source". -/
def execFireMonitor (s : State) : Outcome := refuseNoHandler 0x18 s

/-- JOY_KEYCODE (R186): "no handler in source"; its six bytes are not interpreted. -/
def execJoyKeycode (_a _b _c _d _e _f : Byte) (s : State) : Outcome := refuseNoHandler 0x19 s

end Sys2Proof.Machine
end

