-- ==== Sys2Proof/Machine/Pointer.lean ====
section
/-!
DEFINITION. The pointer commands (41_cmd_pointer.md). Each meaning is the command's handler: the
dispatcher's work before and after it is in `Machine/Framer.lean`.
-/

namespace Sys2Proof.Machine

/-- SET_ACTION (R150): every value is stored whole. -/
def execSetAction (a : Byte) (s : State) : Outcome :=
  .next { s with rel := { s.rel with action := a } }

/-- SET_REL (R151). -/
def execSetRel (s : State) : Outcome :=
  .next (notePtrChange { s with mode := { s.mode with pointer := .relative } })

/-- SET_ABS (R152): the maxima are stored and the position is clamped into them. -/
def execSetAbs (mx my : Word16) (s : State) : Outcome :=
  .next (notePtrChange
    { s with
      mode := { s.mode with pointer := .absolute }
      abs  := { s.abs with
        maxX := mx
        maxY := my
        x := minCoord s.abs.x mx
        y := minCoord s.abs.y my } })

/-- SET_KEYCODE (R154): a step of 0 is stored as 0. -/
def execSetKeycode (dx dy : Byte) (s : State) : Outcome :=
  .next (notePtrChange
    { s with
      mode := { s.mode with pointer := .cursorKeys }
      rel  := { s.rel with keyDx := dx, keyDy := dy } })

/-- SET_THRESH (R155): a threshold of 0 is stored as 1. -/
def execSetThresh (xt yt : Byte) (s : State) : Outcome :=
  .next { s with rel := { s.rel with xThr := max1 xt, yThr := max1 yt } }

/-- SET_SCALE (R156): every value is stored. -/
def execSetScale (xs ys : Byte) (s : State) : Outcome :=
  .next { s with rel := { s.rel with xScale := xs, yScale := ys } }

/-- The absolute position packet for a state nibble `n` (30_encoding.md R112). -/
def absPacket (a : AbsPointer) (n : Byte) : List Byte :=
  [hdrAbs, edgeNibble n a.prevButtons, hiByte a.x, loByte a.x, hiByte a.y, loByte a.y]

/-- INTERROGATE_ABS (R157): the packet, then the state nibble is remembered. -/
def execInterrogateAbs (s : State) : Outcome :=
  let n := stateNibble s.btn.l.down s.btn.r.down
  .next { s.emit (absPacket s.abs n) with abs := { s.abs with prevButtons := n } }

/-- LOAD_POS (R158): the filler is ignored and the position is clamped to the maxima. -/
def execLoadPos (_filler : Byte) (x y : Word16) (s : State) : Outcome :=
  .next { s with abs := { s.abs with
    x := clampCoord x.toNat s.abs.maxX
    y := clampCoord y.toNat s.abs.maxY } }

/-- Y_BOTTOM (R159). -/
def execYBottom (s : State) : Outcome :=
  .next { s with rel := { s.rel with yAxis := .bottom } }

/-- Y_TOP (R160). -/
def execYTop (s : State) : Outcome :=
  .next { s with rel := { s.rel with yAxis := .top } }

/-- DISABLE_PTR (R161): pointer Off, the sticky flag, the window note, then the dual-disable check. -/
def execDisablePtr (s : State) : Outcome :=
  .next (dualDisableCheck (notePtrChange
    { s with
      mode := { s.mode with pointer := .off }
      rt   := { s.rt with ptrDisabled := true } }))

end Sys2Proof.Machine
end

