-- ==== Sys2Proof/Machine/Report.lean ====
section
/-!
DEFINITION. The report-current-setting commands (44_cmd_report.md): each emits one packet of 8 bytes
and changes no other state.
-/

namespace Sys2Proof.Machine

/-- The packet for a payload of 1 to 7 bytes, padded with zeros to 8 bytes in all (R230,
30_encoding.md R115). -/
def reportPacket (p : List Byte) : List Byte :=
  hdrStatus :: (p ++ List.replicate (7 - p.length) 0x00)

/-- `Report(p)` (R230). -/
def report (p : List Byte) (s : State) : State := s.emit (reportPacket p)

/-- `PtrModePayload` (R244). -/
def ptrModePayload (s : State) : List Byte :=
  match s.mode.pointer with
  | .relative => [0x08]
  | .absolute => [0x09, hiByte s.abs.maxX, loByte s.abs.maxX, hiByte s.abs.maxY, loByte s.abs.maxY]
  | .cursorKeys => [0x0A, s.rel.keyDx, s.rel.keyDy]
  | .off => [0x12]

/-- `JoyModePayload` (R245). -/
def joyModePayload (s : State) : List Byte :=
  match s.mode.joystick with
  | .auto => [0x14]
  | .monitoring => [0x17, 0x00]
  | .off => [0x1A]

/-- The payload that encodes the Y-axis direction (R237, R238). -/
def yAxisPayload (s : State) : List Byte :=
  match s.rel.yAxis with
  | .bottom => [0x0F]
  | .top => [0x10]

/-- The payload that says whether the pointer is enabled (R239). -/
def ptrAvailPayload (s : State) : List Byte :=
  [if s.mode.pointer = .off then 0x12 else 0x00]

/-- The payload that says whether the joystick is enabled (R243). -/
def joyAvailPayload (s : State) : List Byte :=
  [if s.mode.joystick = .off then 0x1A else 0x00]

/-- Q_ACTION (R231). -/
def execQAction (s : State) : Outcome := .next (report [0x07, s.rel.action] s)

/-- Q_PTRMODE_88 (R232). -/
def execQPtrmode88 (s : State) : Outcome := .next (report (ptrModePayload s) s)

/-- Q_PTRMODE_89 (R233). -/
def execQPtrmode89 (s : State) : Outcome := .next (report (ptrModePayload s) s)

/-- Q_PTRMODE_8A (R234). -/
def execQPtrmode8A (s : State) : Outcome := .next (report (ptrModePayload s) s)

/-- Q_THRESH (R235). -/
def execQThresh (s : State) : Outcome := .next (report [0x0B, s.rel.xThr, s.rel.yThr] s)

/-- Q_SCALE (R236). -/
def execQScale (s : State) : Outcome := .next (report [0x0C, s.rel.xScale, s.rel.yScale] s)

/-- Q_YAXIS_8F (R237). -/
def execQYaxis8F (s : State) : Outcome := .next (report (yAxisPayload s) s)

/-- Q_YAXIS_90 (R238). -/
def execQYaxis90 (s : State) : Outcome := .next (report (yAxisPayload s) s)

/-- Q_PTRAVAIL (R239). -/
def execQPtravail (s : State) : Outcome := .next (report (ptrAvailPayload s) s)

/-- Q_JOYMODE_94 (R240). -/
def execQJoymode94 (s : State) : Outcome := .next (report (joyModePayload s) s)

/-- Q_JOYMODE_95 (R241). -/
def execQJoymode95 (s : State) : Outcome := .next (report (joyModePayload s) s)

/-- Q_JOYMODE_99 (R242). -/
def execQJoymode99 (s : State) : Outcome := .next (report (joyModePayload s) s)

/-- Q_JOYAVAIL (R243). -/
def execQJoyavail (s : State) : Outcome := .next (report (joyAvailPayload s) s)

end Sys2Proof.Machine
end

