-- ==== Sys2Proof/Machine/Custom.lean ====
section
/-!
DEFINITION. The custom-program layer (45_custom_program.md): the checksum, the loader, the boot
handler, and the calls of a registered program's handlers, whose bodies are `P_REGISTRY`.
-/

namespace Sys2Proof.Machine

/-! ## Checksum -/

/-- One round of `CrcByte` (R260): polynomial 0x04C11DB7, most significant bit first. -/
def crcRound (c : Word32) : Word32 := if c.msb then (c <<< 1) ^^^ 0x04C11DB7 else c <<< 1

/-- `n` rounds. -/
def crcRounds : Nat → Word32 → Word32
  | 0, c => c
  | n + 1, c => crcRounds n (crcRound c)

/-- `CrcByte(c, b)` (R260). -/
def crcByte (c : Word32) (b : Byte) : Word32 := crcRounds 8 (c ^^^ (b.zeroExtend 32 <<< 24))

/-- The seed, all ones (R260). -/
def crcSeed : Word32 := 0xFFFFFFFF

/-- `Crc(bytes)` (R260). -/
def crcOf (bs : List Byte) : Word32 := bs.foldl crcByte crcSeed

/-! ## Registry lookups, first entry in registry order (R261, R265; 92_eei_decisions.md D29) -/

/-- The registry's indices in order. -/
def entries : List EntryIndex := [0, 1, 2, 3, 4, 5]

/-- The first entry whose load checksum is `crc` (R261). -/
def loadMatch (crc : Word32) : Option EntryIndex :=
  entries.find? (fun e => (registry e).loadCrc == crc)

/-- The first entry whose main signature is this count and checksum (R265). -/
def mainMatch (count : Nat) (crc : Word32) : Option EntryIndex :=
  entries.find? (fun e => (registry e).mainLen == (count : Int) && (registry e).mainCrc == crc)

/-! ## Loading -/

/-- `LoadComplete` (R261): the phase after a load whose checksum is `crc`. -/
def loadComplete (crc : Word32) : Phase :=
  match loadMatch crc with
  | some e => .bootMatched e
  | none => .standard

/-- The phase after `remaining` bytes are left to load (R261, 43_cmd_system.md R207). -/
def loadPhase (remaining : Nat) (dest : Word16) (crc : Word32) : Phase :=
  if remaining = 0 then loadComplete crc else .loading remaining dest crc

/-- `LoaderByte(b)` in phase `Loading(rem, dest, crc)` (R261): the byte is written through the
resolver, the address advances modulo 2^16, and the checksum takes the byte in. -/
def loaderByte (rem : Nat) (dest : Word16) (crc : Word32) (b : Byte) (s : State) : State :=
  { s.memWrite dest b with phase := loadPhase (rem - 1) (dest + 1) (crcByte crc b) }

/-! ## Executing -/

/-- `EnterExecuting` (R264). -/
def enterExecuting (s : State) : State := { s with phase := .executing (.boot crcSeed 0) }

/-- `BootByte(b)`: the stage after the byte (R265). -/
def bootStage (crc : Word32) (count : Nat) (b : Byte) : ExecStage :=
  match mainMatch (count + 1) (crcByte crc b) with
  | some e => .main e (registry e).init
  | none => .boot (crcByte crc b) (count + 1)

/-- `BootByte(b)` (R265): it emits nothing and writes no memory. -/
def bootByteStep (crc : Word32) (count : Nat) (b : Byte) (s : State) : State :=
  { s with phase := .executing (bootStage crc count b) }

/-- What the write handler's answer does (R267, R268, R270): the local state, the output through the
gate, then the reset if it asks for one. -/
def mainWriteDone (e : EntryIndex) (loc : LocalState) (out : List Byte) (exit : Bool)
    (s : State) : State :=
  let t := State.emitR out { s with phase := .executing (.main e loc) }
  if exit then engineReset false t else t

/-- `MainWrite(e, s, b)` (R267). -/
def mainWrite (e : EntryIndex) (loc : LocalState) (b : Byte) (s : State) : Outcome :=
  match (registry e).write loc b s.view s.memRead with
  | .done loc' out exit => .next (mainWriteDone e loc' out exit s)
  | .refuse code => refuseCustom e code s

/-- `WriteHandlerByte(b)` (R263). -/
def writeHandlerByte (st : ExecStage) (b : Byte) (s : State) : Outcome :=
  match st with
  | .boot crc count => .next (bootByteStep crc count b s)
  | .main e loc => mainWrite e loc b s

/-- What the read handler's answer does (R269, R268). -/
def readDone (e : EntryIndex) (loc : LocalState) (out : List Byte) (s : State) : State :=
  State.emitR out { s with phase := .executing (.main e loc) }

/-- The read handler call in phase `Executing(Main(e, loc))` (R269). -/
def mainRead (e : EntryIndex) (loc : LocalState) (ev : ReadEvent) (s : State) : Outcome :=
  match (registry e).read with
  | some rh =>
    match rh loc s.view s.memRead ev with
    | .done loc' out => .next (readDone e loc' out s)
    | .refuse code => refuseCustom e code s
  | none => .next s

/-- `RunRead(ev)` (R269). -/
def runRead (ev : ReadEvent) (s : State) : Outcome :=
  match s.phase with
  | .executing (.main e loc) => mainRead e loc ev s
  | _ => .next s

end Sys2Proof.Machine
end

