-- ==== Sys2Proof/Machine/System.lean ====
section
/-!
DEFINITION. The system, clock and memory commands (43_cmd_system.md).
-/

namespace Sys2Proof.Machine

/-- RESET (R200): only the magic second byte resets; any other consumes the frame and does nothing. -/
def execReset (magic : Byte) (s : State) : Outcome :=
  .next (if magic = resetMagic then engineReset false s else s)

/-- PAUSE (R201): ignored inside the critical window. -/
def execPause (s : State) : Outcome :=
  .next { s with paused := if s.rt.inWindow then s.paused else true }

/-- RESUME (R202): nothing; the dispatcher has already cleared the flag (40_framer.md R136). -/
def execResume (s : State) : Outcome := .next s

/-- SET_CLOCK (R203): each byte is stored if it is BCD and dropped otherwise, independently. -/
def execSetClock (year month day hour minute second : Byte) (s : State) : Outcome :=
  .next { s with clock :=
    { year   := storeBcd s.clock.year year
      month  := storeBcd s.clock.month month
      day    := storeBcd s.clock.day day
      hour   := storeBcd s.clock.hour hour
      minute := storeBcd s.clock.minute minute
      second := storeBcd s.clock.second second } }

/-- READ_CLOCK (R204): the clock packet of 30_encoding.md R114. -/
def execReadClock (s : State) : Outcome := .next (s.emit (hdrClock :: s.clock.bytes))

/-- The six consecutive bytes from `a`, addresses modulo 2^16 (20_memory.md R72). -/
def State.sixBytes (s : State) (a : Word16) : List Byte :=
  [s.memRead a, s.memRead (a + 1), s.memRead (a + 2),
   s.memRead (a + 3), s.memRead (a + 4), s.memRead (a + 5)]

/-- MEM_READ (R205): the memory-read packet of 30_encoding.md R116. -/
def execMemRead (a : Word16) (s : State) : Outcome :=
  .next (s.emit (hdrStatus :: memReadTag :: s.sixBytes a))

/-- EXECUTE (R206): in BootMatched it enters Executing, its address ignored; with no handler installed
it does nothing. -/
def execExecute (_addr : Word16) (s : State) : Outcome :=
  .next (match s.phase with
         | .bootMatched _ => enterExecuting s
         | _ => s)

/-- MEM_LOAD (R207): a count of 0 completes at once, comparing the seed. -/
def execMemLoad (addr : Word16) (count : Byte) (s : State) : Outcome :=
  .next { s with phase := loadPhase count.toNat addr crcSeed }

end Sys2Proof.Machine
end

