-- ==== Sys2Proof/Machine/Dispatch.lean ====
section
/-!
DEFINITION. The handler of each command (40_framer.md R139): one arm per row of the command table.
-/

namespace Sys2Proof.Machine

def exec (i : Instr) (s : State) : Host.Outcome State Fault Refusal :=
  match i with
  | .reset m => Sys2Proof.Machine.execReset m s
  | .setAction a => Sys2Proof.Machine.execSetAction a s
  | .setRel => Sys2Proof.Machine.execSetRel s
  | .setAbs mx my => Sys2Proof.Machine.execSetAbs mx my s
  | .setKeycode dx dy => Sys2Proof.Machine.execSetKeycode dx dy s
  | .setThresh xt yt => Sys2Proof.Machine.execSetThresh xt yt s
  | .setScale xs ys => Sys2Proof.Machine.execSetScale xs ys s
  | .interrogateAbs => Sys2Proof.Machine.execInterrogateAbs s
  | .loadPos fl x y => Sys2Proof.Machine.execLoadPos fl x y s
  | .yBottom => Sys2Proof.Machine.execYBottom s
  | .yTop => Sys2Proof.Machine.execYTop s
  | .resume => Sys2Proof.Machine.execResume s
  | .disablePtr => Sys2Proof.Machine.execDisablePtr s
  | .pause => Sys2Proof.Machine.execPause s
  | .joyAuto => Sys2Proof.Machine.execJoyAuto s
  | .joyQmode => Sys2Proof.Machine.execJoyQmode s
  | .joyQuery => Sys2Proof.Machine.execJoyQuery s
  | .joyMonitor r => Sys2Proof.Machine.execJoyMonitor r s
  | .fireMonitor => Sys2Proof.Machine.execFireMonitor s
  | .joyKeycode a b c d e f => Sys2Proof.Machine.execJoyKeycode a b c d e f s
  | .disableJoy => Sys2Proof.Machine.execDisableJoy s
  | .setClock a b c d e f => Sys2Proof.Machine.execSetClock a b c d e f s
  | .readClock => Sys2Proof.Machine.execReadClock s
  | .memLoad a n => Sys2Proof.Machine.execMemLoad a n s
  | .memRead a => Sys2Proof.Machine.execMemRead a s
  | .execute a => Sys2Proof.Machine.execExecute a s
  | .qAction => Sys2Proof.Machine.execQAction s
  | .qPtrmode88 => Sys2Proof.Machine.execQPtrmode88 s
  | .qPtrmode89 => Sys2Proof.Machine.execQPtrmode89 s
  | .qPtrmode8A => Sys2Proof.Machine.execQPtrmode8A s
  | .qThresh => Sys2Proof.Machine.execQThresh s
  | .qScale => Sys2Proof.Machine.execQScale s
  | .qYaxis8F => Sys2Proof.Machine.execQYaxis8F s
  | .qYaxis90 => Sys2Proof.Machine.execQYaxis90 s
  | .qPtravail => Sys2Proof.Machine.execQPtravail s
  | .qJoymode94 => Sys2Proof.Machine.execQJoymode94 s
  | .qJoymode95 => Sys2Proof.Machine.execQJoymode95 s
  | .qJoymode99 => Sys2Proof.Machine.execQJoymode99 s
  | .qJoyavail => Sys2Proof.Machine.execQJoyavail s

end Sys2Proof.Machine
end

