-- ==== Sys2Proof/Machine/Events.lean ====
section
/-!
DEFINITION. The host events that are neither a byte nor a tick: key events and the external reset
(47_host_events.md).
-/

namespace Sys2Proof.Machine

/-- The key table after a key event (R330). -/
def keyTable (code : Byte) (s : State) : State :=
  { s with keys := s.keys.set (keyIndex code).val (isPress code) (keyIndex code).isLt }

/-- `onKeyEvent(code)` (R330): the table, then the code through the gate, then the read handler. -/
def onKeyEvent (code : Byte) (s : State) : Outcome :=
  runRead (.key code) (State.emitR [code] (keyTable code s))

/-- `reset(cold)` (R332). -/
def hwReset (cold : Bool) (s : State) : Outcome := .next (engineReset cold s)

end Sys2Proof.Machine
end

