-- ==== Sys2Proof/Machine/Tick.lean ====
section
/-!
DEFINITION. `tick()`: the reset countdown and the auto-report generator (46_tick.md), one definition
per source step, put together in `tick` as R280 has them.
-/

namespace Sys2Proof.Machine

/-! ## Step 1: the reset countdown -/

/-- Step 1 while the countdown runs (R281): on reaching zero the window closes and the boot-complete
byte is emitted, whether or not output is paused. -/
def step1Countdown (s : State) : State :=
  if s.rt.count = 1 then
    State.emit [bootByte] { s with rt := { s.rt with count := 0, inWindow := false } }
  else { s with rt := { s.rt with count := s.rt.count - 1 } }

/-! ## Steps 2 and 3: sampling, fire duplication, edges -/

/-- Step 2 (R283): buttons (bit 0 left, bit 1 right) and lanes from the live inputs. -/
def step2Sample (s : State) : State :=
  sampleLanes
    { s with btn := { s.btn with
        l := { s.btn.l with ptr := s.live.buttons.getLsbD 0 }
        r := { s.btn.r with ptr := s.live.buttons.getLsbD 1 } } }

/-- Step 3 (R284): with the pointer Off, lane-1 fire shows as the right button; with the pointer on,
the right button shows as lane-1 fire. -/
def step3DuplicateFire (s : State) : State :=
  if s.mode.pointer = .off then
    { s with btn := { s.btn with
        l := { s.btn.l with joy := false }
        r := { s.btn.r with joy := fireOf s.joy1.cur } } }
  else
    { s with
      btn := { s.btn with
        l := { s.btn.l with joy := false }
        r := { s.btn.r with joy := false } }
      joy1 := { s.joy1 with
        cur := if s.btn.r.ptr then s.joy1.cur ||| joyFire else s.joy1.cur } }

/-- The memory of `ComputeEdges` (R285): its locals are `Buttons.edges`. -/
def rememberButtons (s : State) : State :=
  { s with btn := { s.btn with prevL := s.btn.l.down, prevR := s.btn.r.down } }

/-! ## Step 4: buttons as keys -/

/-- Step 4 (R286): the codes of the button edges, when the path is taken. -/
def step4ButtonKeys (e : Edges) (s : State) : State :=
  s.emitR (if keysTaken s.rel.action e then buttonCodes e else [])

/-! ## Step 5: accumulation -/

/-- The absolute position after the live delta (R288): scaled, Y in the configured direction, summed
without wrap and clamped. -/
def movedAbs (s : State) : AbsPointer :=
  { s.abs with
    x := clampCoord (s.abs.x.toNat + absScale s.live.dx s.rel.xScale) s.abs.maxX
    y := clampCoord (s.abs.y.toNat + absScale s.live.dy s.rel.yScale * s.rel.yAxis.sign)
           s.abs.maxY }

/-- The pointer modes that drain the pending delta (R288). -/
def PointerMode.drains : PointerMode → Bool
  | .relative => true
  | .cursorKeys => true
  | .off => false
  | .absolute => false

/-- Step 5 (R288), and the consumption of the pointer delta (R289). -/
def step5Accumulate (s : State) : State :=
  { s with
    abs := movedAbs s
    rel := { s.rel with
      pendX := if s.mode.pointer.drains then s.rel.pendX + s.live.dx else 0
      pendY := if s.mode.pointer.drains then s.rel.pendY + s.live.dy else 0 }
    consumed := { s.consumed with dx := s.live.dx, dy := s.live.dy } }

/-! ## Steps 6 and 7: joystick reports -/

/-- Step 6 (R290): the monitoring packet of 30_encoding.md R117. -/
def step6Monitor (s : State) : State :=
  s.emitR [monitorFire s.joy0.cur s.joy1.cur, monitorDirs s.joy0.cur s.joy1.cur]

/-- Step 7 (R291), in joystick mode Auto only. -/
def step7Joystick (s : State) : State :=
  if s.mode.joystick = .auto then lanesSent (s.emitR (lanePackets s)) else s

/-! ## Step 8: relative pointer packets -/

/-- Bytes to emit and the pending motion that is left. -/
structure Drained where
  bytes : List Byte
  pendX : Int
  pendY : Int
deriving DecidableEq, Repr

/-- The part of the pending delta that one packet carries, in X (R293). -/
def relPartX (pendX : Int) : Int := clamp pendX (-128) 127

/-- The part of the pending delta that one packet carries, in Y (R293). -/
def relPartY (ySign pendY : Int) : Int := clamp (pendY * ySign) (-128) 127

/-- The loop of step 8 (R292 to R294), at most `fuel` packets: a packet while either part has at
least its threshold's magnitude, or first for a button edge; the sent parts are subtracted. -/
def relPackets (hdr : Byte) (xThr yThr : Nat) (ySign : Int) :
    (fuel : Nat) → (edge : Bool) → (pendX pendY : Int) → Drained
  | 0, _, pendX, pendY => ⟨[], pendX, pendY⟩
  | fuel + 1, edge, pendX, pendY =>
    if xThr ≤ (relPartX pendX).natAbs ∨ yThr ≤ (relPartY ySign pendY).natAbs ∨ edge = true then
      let rest := relPackets hdr xThr yThr ySign fuel false
        (pendX - relPartX pendX) (pendY - relPartY ySign pendY * ySign)
      ⟨hdr :: byteOf (relPartX pendX) :: byteOf (relPartY ySign pendY) :: rest.bytes,
        rest.pendX, rest.pendY⟩
    else ⟨[], pendX, pendY⟩

/-- The number of iterations that bounds the loop (R295). -/
def relBound (pendX pendY : Int) : Nat := 1 + pendX.natAbs + pendY.natAbs

/-- What step 8 emits and leaves in pointer mode Relative (R292, R296). -/
def relReport (e : Edges) (s : State) : Drained :=
  relPackets (relHeader e.lDown e.rDown) s.rel.xThr.toNat s.rel.yThr.toNat s.rel.yAxis.sign
    (relBound s.rel.pendX s.rel.pendY) (e.edgeL || e.edgeR) s.rel.pendX s.rel.pendY

/-- Step 8 (R292), in pointer mode Relative only. -/
def step8Relative (e : Edges) (s : State) : State :=
  if s.mode.pointer = .relative then
    { s.emitR (relReport e s).bytes with
      rel := { s.rel with pendX := (relReport e s).pendX, pendY := (relReport e s).pendY } }
  else s

/-! ## Step 9: cursor-key emulation -/

/-- One axis of step 9 (R297), at most `n` pairs: a pair of the positive or negative key for each
`stepSize` of pending delta. -/
def cursorAxis (stepSize : Nat) (pos neg : Byte) : (n : Nat) → (pend : Int) → List Byte × Int
  | 0, pend => ([], pend)
  | n + 1, pend =>
    if stepSize ≤ pend.natAbs then
      let rest := cursorAxis stepSize pos neg n (pend - pend.sign * stepSize)
      (keyPair (if 0 < pend then pos else neg) ++ rest.1, rest.2)
    else ([], pend)

/-- The X axis of step 9: positive is right (R297, R298). -/
def cursorX (s : State) : List Byte × Int :=
  cursorAxis (max1 s.rel.keyDx).toNat keyRight keyLeft cursorCap s.rel.pendX

/-- The Y axis of step 9: positive is down, the Y direction not applied (R297, R298). -/
def cursorY (s : State) : List Byte × Int :=
  cursorAxis (max1 s.rel.keyDy).toNat keyDown keyUp cursorCap s.rel.pendY

/-- `CursorButtons` (R299): the edge codes, unless step 4 has emitted them. -/
def cursorButtons (taken : Bool) (e : Edges) : List Byte :=
  if taken then [] else buttonCodes e

/-- Step 9 (R297), in pointer mode CursorKeys only: X, then Y, then the buttons. -/
def step9CursorKeys (taken : Bool) (e : Edges) (s : State) : State :=
  if s.mode.pointer = .cursorKeys then
    { s.emitR ((cursorX s).1 ++ (cursorY s).1 ++ cursorButtons taken e) with
      rel := { s.rel with pendX := (cursorX s).2, pendY := (cursorY s).2 } }
  else s

/-! ## Step 10: wheel and other synthetic events -/

/-- `wheelUsed` (R300): one unit in the wheel's direction. -/
def wheelUsed (wheel : Int) : Int := wheel.sign

/-- The key pair of one wheel unit (R300): positive is up. -/
def wheelCodes (wheel : Int) : List Byte :=
  if 0 < wheel then keyPair wheelUpKey else if wheel < 0 then keyPair wheelDownKey else []

/-- Step 10, the wheel (R300). -/
def step10Wheel (s : State) : State :=
  { s.emitR (wheelCodes s.live.wheel) with
    consumed := { s.consumed with wheelUsed := wheelUsed s.live.wheel } }

/-- What an answer of `P_EXTRA_EVENTS` does (R301): its bytes through the gate, its last-sampled
values. -/
def extraEventsDone (v : ExtraEvents) (s : State) : State :=
  { s.emitR v.out with pad := v.last }

/-- Step 10, the other synthetic events (R301), for a definition `d` of `P_EXTRA_EVENTS`: its value
for the state and the inputs, or a refusal that it makes (60_exceptions.md R342). -/
def step10ExtraEvents (d : ExtraDefinition) (s : State) : Outcome :=
  match d s.view s.phase s.mem s.live with
  | .done v => .next (extraEventsDone v s)
  | .refuse code => refuseExtra code s

/-! ## Step 11 and the whole tick -/

/-- Step 11 (R303): the read handler of a custom program, last. -/
def step11ReadHandler (s : State) : Outcome := runRead (.tick s.live) s

/-- A step unless the tick skips it (R280, R287). -/
def unlessSkipped (taken : Bool) (n : Nat) (f : State → State) (s : State) : State :=
  if skipped taken n then s else f s

/-- Steps 2 and 3 and the edges (R283 to R285): the state that every later step of the tick reads. -/
def sampled (s : State) : State := step3DuplicateFire (step2Sample s)

/-- Steps 6 to 10 but for `P_EXTRA_EVENTS` (R280): in Monitoring only step 6, otherwise 7 to 10. -/
def reportSteps (taken : Bool) (e : Edges) (s : State) : State :=
  if s.mode.joystick = .monitoring then unlessSkipped taken 6 step6Monitor s
  else
    step10Wheel (unlessSkipped taken 9 (step9CursorKeys taken e)
      (unlessSkipped taken 8 (step8Relative e) (unlessSkipped taken 7 step7Joystick s)))

/-- Steps 2 to 10 but for `P_EXTRA_EVENTS` (R280). -/
def tickReports (s : State) : State :=
  let s3 := sampled s
  let e := s3.btn.edges
  reportSteps (keysTaken s3.rel.action e) e
    (step5Accumulate (step4ButtonKeys e (rememberButtons s3)))

/-- Steps 2 to 10 (R280): `P_EXTRA_EVENTS` is the end of step 10, which Monitoring does not reach. -/
def tickBody (d : ExtraDefinition) (s : State) : Outcome :=
  if s.mode.joystick = .monitoring then .next (tickReports s)
  else step10ExtraEvents d (tickReports s)

/-- `tick()` (R280) for a definition `d` of `P_EXTRA_EVENTS`: a tick on which the countdown runs does
nothing but step 1 (R281) and consumes nothing (R289). -/
def tickWith (d : ExtraDefinition) (s : State) : Outcome :=
  if 0 < s.rt.count then .next (step1Countdown { s with consumed := consumedZero })
  else andThen (tickBody d { s with consumed := consumedZero }) step11ReadHandler

/-- `tick()` (R280), with the function of R18 for `P_EXTRA_EVENTS`: it "never refuses, except through
a custom handler". -/
def tick (s : State) : Outcome := tickWith extraDefinition s

end Sys2Proof.Machine
end

