-- ==== Sys2Proof/Machine/Framer.lean ====
section
/-!
DEFINITION. `submit`: byte routing, framing and dispatch (40_framer.md), the calls of the host
(60_exceptions.md R343), and the placing of one command where the next step runs it.
-/

namespace Sys2Proof.Machine

/-- R133: a byte is appended if capacity remains, else dropped. -/
def appendByte (b : Byte) (frame : List Byte) : List Byte :=
  if frame.length < Config.frameCap then frame ++ [b] else frame

/-- The end of a dispatch (R137): after the handler the buffer is cleared. -/
def clearFrame : Outcome → Outcome
  | .next s => .next { s with frame := [] }
  | .fault f => .fault f
  | .refused r => .refused r

/-- R136, R139, R137: the paused flag is cleared, the handler runs, the buffer is cleared. -/
def dispatch (i : Instr) (s : State) : Outcome := clearFrame (exec i { s with paused := false })

/-- `FrameByte(b)` (R132): append, look up, then run the complete frame, drop an unknown first byte
(R135), or await more bytes (R134). -/
def frameByte (b : Byte) (s : State) : Outcome :=
  let s' := { s with frame := appendByte b s.frame }
  match decode s'.frame with
  | .command i [] => dispatch i s'
  | .unknownOpcode _ => .next { s' with frame := [] }
  | _ => .next s'

/-- `submit(b)` (R130): the phase alone routes the byte. -/
def submit (b : Byte) (s : State) : Outcome :=
  match s.phase with
  | .standard => frameByte b s
  | .bootMatched _ => frameByte b s
  | .loading rem dest crc => .next (loaderByte rem dest crc b s)
  | .executing st => writeHandlerByte st b s

/-- One call of the host (00_scope.md R26, R27), the live inputs of the step drawn with it. -/
def runCall (c : Call) (s : State) : Outcome :=
  match c with
  | .submit b j0 j1 => submit b { s with live := { s.live with joy0 := j0, joy1 := j1 } }
  | .tick inp => tick { s with live := inp }
  | .keyEvent code => onKeyEvent code s
  | .hwReset cold => hwReset cold s
  | .hostWrite cell b => .next (s.tableWrite cell b)

/-- The next call of the host. With none, the engine "holds its state unchanged"
(60_exceptions.md R355). -/
def runNext (s : State) : Outcome :=
  match s.calls with
  | [] => .next s
  | c :: rest => runCall c { s with calls := rest }

/-- The length of the frame that begins with this byte; 1 for a byte that begins none. -/
def frameLength (op : Byte) : Nat :=
  match lookup op with
  | some e => e.totalLength
  | none => 1

/-- The phase in which input bytes are command frames: a load or a custom program is given up. -/
def framingPhase : Phase → Phase
  | .standard => .standard
  | .bootMatched e => .bootMatched e
  | .loading _ _ _ => .standard
  | .executing _ => .standard

/-- The first frame of `bytes` placed so that the very next step completes it: all its bytes but the
last wait in the command buffer and the last is the host's next call. -/
def placeFrame (bytes : List Byte) (s : State) : State :=
  let n := frameLength (bytes.headD 0x00)
  { s with
    frame := bytes.take (n - 1)
    phase := framingPhase s.phase
    calls := .submit (bytes.getD (n - 1) 0x00) s.live.joy0 s.live.joy1 :: s.calls }

end Sys2Proof.Machine
end

