-- ==== Sys2Proof/Machine/Step.lean ====
section
/-!
DEFINITION. One step of the engine is one call of the host (00_scope.md R27): the first of those
that wait in `State.calls`.
-/

namespace Sys2Proof.Machine

/-- One step: the host's next call, run to its end (R27). -/
def step (s : State) : Host.Outcome State Fault Refusal := runNext s

/-- `s` with the command that `w` holds (numbered as spec/opcode_table.json numbers it) placed where
the next step runs it. The engine fetches nothing: a command is a frame that the host submits byte
by byte (00_scope.md R2), so the frame's bytes but the last stand in the command buffer and the last
is the next call (notes/assumptions/6.md). -/
def State.withFetchWord (s : State) (nbits w : Nat) : State := placeFrame (tableBytes nbits w) s

end Sys2Proof.Machine
end

