-- ==== Sys2Proof/Safety.lean ====
section
/-!
DEFINITION. What the statements about the engine speak of: the invariants of 10_state.md (R61, and
those that its field rules give), the phases in which input bytes are frames, the call that completes
a command, and the motion that a list of relative packets reports.
-/

namespace Sys2Proof.Machine

/-- The phases in which an input byte goes to the framer (40_framer.md R130, R131). -/
def Framing (p : Phase) : Prop := p = .standard ∨ ∃ e, p = .bootMatched e

/-- 10_state.md R61, item by item. -/
structure SpecInv (s : State) : Prop where
  /-- Item 1: the buffer is within capacity and holds no complete frame. -/
  frame_wf : frameWellFormed cmdTable s.frame = true
  /-- Item 2. -/
  frame_phase : s.frame ≠ [] → Framing s.phase
  /-- Item 3, X. -/
  abs_x : s.abs.x.toNat ≤ s.abs.maxX.toNat
  /-- Item 3, Y. -/
  abs_y : s.abs.y.toNat ≤ s.abs.maxY.toNat
  /-- Item 4, X. -/
  x_thr : 1 ≤ s.rel.xThr.toNat
  /-- Item 4, Y. -/
  y_thr : 1 ≤ s.rel.yThr.toNat
  /-- Item 5. -/
  window : s.rt.inWindow = true ↔ 0 < s.rt.count
  /-- Item 6. -/
  y_axis : s.rel.yAxis.sign = 1 ∨ s.rel.yAxis.sign = -1
  /-- Item 7. -/
  not_paused : ∀ st, s.phase = .executing st → s.paused = false

/-- What the field rules of 10_state.md say of single fields, and the form of the model's memory. -/
structure FieldInv (s : State) : Prop where
  /-- R41: only bits 3..0 are used. -/
  prev_buttons : s.abs.prevButtons &&& 0xF0 = 0
  /-- R44: in every lane mask only the lane bits may be set. -/
  lanes : s.joy0.cur &&& ~~~joyMask = 0 ∧ s.joy0.sent &&& ~~~joyMask = 0 ∧
    s.joy1.cur &&& ~~~joyMask = 0 ∧ s.joy1.sent &&& ~~~joyMask = 0
  /-- R47: every clock byte is packed BCD. -/
  clock_bcd : s.clock.bytes.all isBcd = true
  /-- R55, 45_custom_program.md R261: a load that is under way has 1 to 255 bytes to go. -/
  loading : ∀ rem dest crc, s.phase = .loading rem dest crc → 1 ≤ rem ∧ rem ≤ 255
  /-- The tables are held in the model's canonical form. -/
  mem_wf : s.mem.wf = true

/-- The host's next call is a byte that completes the frame of command `i`
(40_framer.md R132, 30_encoding.md R90). -/
def Completes (i : Instr) (s : State) : Prop :=
  ∃ b j0 j1 rest, s.calls = .submit b j0 j1 :: rest ∧ Framing s.phase ∧
    decode (appendByte b s.frame) = .command i []

/-- The motion that a list of 3-byte relative packets reports: the sums of the two signed bytes
(30_encoding.md R110). -/
def motionOf : List Byte → Int × Int
  | _ :: dx :: dy :: rest => (dx.toInt + (motionOf rest).1, dy.toInt + (motionOf rest).2)
  | _ => (0, 0)

end Sys2Proof.Machine
end

