-- ==== Sys2Proof/Certificates/Slice0/Obligations.lean ====
section
/-!
DEFINITION. The statements for the provers, one `def Obligations.<Name> : Prop` each; OBLIGATIONS.json
lists them with the rules of spec/ they formalise.
-/

open Sys2Proof Sys2Proof.Machine

/-! ## Encoding -/

/-- 30_encoding.md R91, R93, R100: every command's frame decodes to it, whatever follows. -/
def Obligations.DecodeEncodeRoundTrip : Prop :=
  ∀ (i : Instr) (rest : List Byte), i.wellFormed = true →
    decode (encode i ++ rest) = .command i rest

/-- The other direction: bytes that decode to a command begin with exactly that command's frame. -/
def Obligations.EncodeDecodeRoundTrip : Prop :=
  ∀ (bs : List Byte) (i : Instr) (rest : List Byte),
    decode bs = .command i rest → bs = encode i ++ rest

/-- 30_encoding.md R101: of the 256 first-byte values exactly the 39 opcodes are recognized. -/
def Obligations.OnlyTheTableOpcodesAreRecognized : Prop :=
  ∀ (op : Byte) (ps : List Byte),
    decode (op :: ps) = .unknownOpcode op ↔
      ¬ ((0x07 ≤ op.toNat ∧ op.toNat ≤ 0x1C) ∨ (0x20 ≤ op.toNat ∧ op.toNat ≤ 0x22) ∨
        op.toNat ∈ [0x80, 0x87, 0x88, 0x89, 0x8A, 0x8B, 0x8C, 0x8F, 0x90, 0x92, 0x94, 0x95, 0x99,
          0x9A])

/-- Frames written out from R100's table, at least one of each command family. -/
def Obligations.SampleFramesDecode : Prop :=
  decode [0x09, 0x02, 0x7F, 0x01, 0x8F] = .command (.setAbs 639 399) [] ∧
  decode [0x0E, 0x00, 0x03, 0xE8, 0x00, 0xC8] = .command (.loadPos 0 1000 200) [] ∧
  decode [0x17, 0x01] = .command (.joyMonitor 1) [] ∧
  decode [0x19, 1, 2, 3, 4, 5, 6] = .command (.joyKeycode 1 2 3 4 5 6) [] ∧
  decode [0x80, 0x01] = .command (.reset 1) [] ∧
  decode [0x20, 0x10, 0x00, 0x03, 0xAA] = .command (.memLoad 0x1000 3) [0xAA] ∧
  decode [0x8B] = .command .qThresh []

/-! ## Framing, dispatch and the step -/

/-- 40_framer.md R130, R132, R136, R137 (the queue of calls is the model's, notes/assumptions/5.md):
a byte that completes the frame of a command runs that command's handler, with paused cleared before
it and the frame cleared after it. -/
def Obligations.StepRunsTheDecodedCommand : Prop :=
  ∀ (s s' : State) (b : Byte) (j0 j1 : Word16) (rest : List Call) (i : Instr),
    s.calls = .submit b j0 j1 :: rest → Framing s.phase → s.frame.length < 8 →
    decode (s.frame ++ [b]) = .command i [] →
    s' = { s with calls := rest, live := { s.live with joy0 := j0, joy1 := j1 },
                  frame := s.frame ++ [b], paused := false } →
    (∀ t, exec i s' = .next t → step s = .next { t with frame := [] }) ∧
    (∀ r, exec i s' = .refused r → step s = .refused r)

/-- The model's choice (notes/assumptions/6.md): the step after `withFetchWord` runs exactly the
command of the word, in a phase whose input bytes are frames. -/
def Obligations.PlacedWordRunsNext : Prop :=
  ∀ (s s' : State) (nbits w : Nat) (i : Instr),
    decodeTableWord nbits w = some i →
    s' = { s with frame := encode i, paused := false, phase := framingPhase s.phase } →
    (∀ t, exec i s' = .next t →
      step (s.withFetchWord nbits w) = .next { t with frame := [] }) ∧
    (∀ r, exec i s' = .refused r → step (s.withFetchWord nbits w) = .refused r)

/-- 40_framer.md R134, R135: an unknown first byte is dropped and a partial frame waits; neither
clears paused or changes anything else. -/
def Obligations.FramerDropsOrWaits : Prop :=
  ∀ (s : State) (b : Byte) (j0 j1 : Word16) (rest : List Call),
    s.calls = .submit b j0 j1 :: rest → Framing s.phase →
    (s.frame = [] → decode [b] = .unknownOpcode b →
      step s = .next { s with calls := rest, live := { s.live with joy0 := j0, joy1 := j1 } }) ∧
    (∀ n, s.frame.length < 8 → decode (s.frame ++ [b]) = .incomplete n →
      step s = .next { s with calls := rest, live := { s.live with joy0 := j0, joy1 := j1 },
                              frame := s.frame ++ [b] })

/-- 40_framer.md R136: every recognized command but PAUSE leaves output not paused. -/
def Obligations.RecognizedCommandClearsPaused : Prop :=
  ∀ (s t : State) (i : Instr),
    Completes i s → i ≠ .pause → step s = .next t → t.paused = false

/-- 70_reset_and_hazards.md R381, which the spec marks as derived: six zero bytes bring the framer
to an empty buffer from any state that meets R61 (unless a handler refuses on the way), and they are
never refused in phase Standard when the partial frame is not JOY_KEYCODE's. -/
def Obligations.SixZeroBytesResynchronize : Prop :=
  ∀ (s : State) (j0 j1 : Word16), SpecInv s →
    s.calls = List.replicate 6 (.submit 0x00 j0 j1) →
    (∀ t, Host.Core.run Sys2Proof.core 6 s = .next t → t.frame = []) ∧
    (s.phase = .standard → s.frame.head? ≠ some 0x19 →
      ∃ t, Host.Core.run Sys2Proof.core 6 s = .next t)

/-! ## Pointer commands -/

/-- 41_cmd_pointer.md R150, R156: the bytes are stored as they are and nothing else changes. -/
def Obligations.SetActionAndSetScaleStoreTheirBytes : Prop :=
  ∀ (s : State) (a b : Byte),
    encode (.setAction a) = [0x07, a] ∧ encode (.setScale a b) = [0x0C, a, b] ∧
    exec (.setAction a) s = .next { s with rel := { s.rel with action := a } } ∧
    exec (.setScale a b) s = .next { s with rel := { s.rel with xScale := a, yScale := b } }

/-- 41_cmd_pointer.md R155: a threshold of 0 is stored as 1, any other as it is. -/
def Obligations.SetThreshStoresAtLeastOne : Prop :=
  ∀ (s : State) (a b : Byte),
    encode (.setThresh a b) = [0x0B, a, b] ∧
    exec (.setThresh a b) s = .next { s with rel := { s.rel with
      xThr := if a.toNat = 0 then 1 else a
      yThr := if b.toNat = 0 then 1 else b } }

/-- 41_cmd_pointer.md R159, R160: Y_BOTTOM selects -1 and Y_TOP +1. -/
def Obligations.YAxisCommandsSetTheDirection : Prop :=
  ∀ s : State,
    encode .yBottom = [0x0F] ∧ encode .yTop = [0x10] ∧
    (∃ y, exec .yBottom s = .next { s with rel := { s.rel with yAxis := y } } ∧ y.sign = -1) ∧
    (∃ y, exec .yTop s = .next { s with rel := { s.rel with yAxis := y } } ∧ y.sign = 1)

/-- 41_cmd_pointer.md R151, R153, R154: the mode, the steps (0 stored as 0), and the window's note.
-/
def Obligations.SetRelAndSetKeycodeSelectTheirModes : Prop :=
  ∀ (s : State) (a b : Byte) (note : Bool),
    note = (if s.rt.inWindow then true else s.rt.ptrChangedInWindow) →
    encode .setRel = [0x08] ∧ encode (.setKeycode a b) = [0x0A, a, b] ∧
    exec .setRel s = .next { s with
      mode := ⟨.relative, s.mode.joystick⟩
      rt   := { s.rt with ptrChangedInWindow := note } } ∧
    exec (.setKeycode a b) s = .next { s with
      mode := ⟨.cursorKeys, s.mode.joystick⟩
      rel  := { s.rel with keyDx := a, keyDy := b }
      rt   := { s.rt with ptrChangedInWindow := note } }

/-- 41_cmd_pointer.md R152: the maxima are stored, the position is kept but clamped into them. -/
def Obligations.SetAbsStoresMaximaAndClamps : Prop :=
  ∀ (s : State) (mx my : Word16),
    encode (.setAbs mx my) = [0x09, mx.extractLsb' 8 8, mx.extractLsb' 0 8,
      my.extractLsb' 8 8, my.extractLsb' 0 8] ∧
    exec (.setAbs mx my) s = .next { s with
      mode := ⟨.absolute, s.mode.joystick⟩
      abs  := { s.abs with
        maxX := mx
        maxY := my
        x := if mx.toNat < s.abs.x.toNat then mx else s.abs.x
        y := if my.toNat < s.abs.y.toNat then my else s.abs.y }
      rt   := { s.rt with
        ptrChangedInWindow := if s.rt.inWindow then true else s.rt.ptrChangedInWindow } }

/-- 41_cmd_pointer.md R158: the position is set, clamped to the maxima; the filler is ignored. -/
def Obligations.LoadPosClampsToTheMaxima : Prop :=
  ∀ (s : State) (filler : Byte) (x y : Word16),
    encode (.loadPos filler x y) = [0x0E, filler, x.extractLsb' 8 8, x.extractLsb' 0 8,
      y.extractLsb' 8 8, y.extractLsb' 0 8] ∧
    exec (.loadPos filler x y) s = .next { s with abs := { s.abs with
      x := if s.abs.maxX.toNat < x.toNat then s.abs.maxX else x
      y := if s.abs.maxY.toNat < y.toNat then s.abs.maxY else y } }

/-- 41_cmd_pointer.md R157 with 30_encoding.md R112, R113: the 6-byte packet with the edge nibble,
then the new state nibble is remembered. -/
def Obligations.InterrogateAbsReportsEdgesAndPosition : Prop :=
  ∀ (s : State) (n : Byte),
    n = ((if s.btn.r.ptr ∨ s.btn.r.joy then 0x01 else 0x02) |||
         (if s.btn.l.ptr ∨ s.btn.l.joy then 0x04 else 0x08)) →
    encode .interrogateAbs = [0x0D] ∧
    exec .interrogateAbs s = .next { s with
      out := s.out ++ [0xF7, n &&& ~~~s.abs.prevButtons &&& 0x0F,
        s.abs.x.extractLsb' 8 8, s.abs.x.extractLsb' 0 8,
        s.abs.y.extractLsb' 8 8, s.abs.y.extractLsb' 0 8]
      abs := { s.abs with prevButtons := n } }

/-- 41_cmd_pointer.md R161, R162, R153: pointer Off and the sticky flags; inside the window, with
the joystick disabled too, both are enabled again. -/
def Obligations.DisablePtrAndTheDualDisableQuirk : Prop :=
  ∀ s : State,
    encode .disablePtr = [0x12] ∧
    (¬ (s.rt.joyDisabled = true ∧ s.rt.inWindow = true) →
      exec .disablePtr s = .next { s with
        mode := ⟨.off, s.mode.joystick⟩
        rt   := { s.rt with
          ptrDisabled := true
          ptrChangedInWindow := if s.rt.inWindow then true else s.rt.ptrChangedInWindow } }) ∧
    (s.rt.joyDisabled = true → s.rt.inWindow = true →
      exec .disablePtr s = .next { s with
        mode := ⟨.relative, .auto⟩
        rt   := { s.rt with ptrDisabled := true, ptrChangedInWindow := true, both := true } })

/-! ## Joystick commands -/

/-- 42_cmd_joystick.md R180, R182: Auto, the force-enable inside the window, and one sample-and-send
of the live registers, lane 0 first. -/
def Obligations.JoyAutoSamplesAndSends : Prop :=
  ∀ (s : State) (c0 c1 : Byte),
    c0 = joySample s.live.joy0 → c1 = joySample s.live.joy1 →
    encode .joyAuto = [0x14] ∧
    exec .joyAuto s = .next { s with
      mode := ⟨if s.rt.inWindow ∧ s.rt.ptrChangedInWindow then .relative else s.mode.pointer, .auto⟩
      rt   := { s.rt with
        both := if s.rt.inWindow ∧ s.rt.ptrChangedInWindow then true else s.rt.both }
      joy0 := ⟨c0, c0⟩
      joy1 := ⟨c1, c1⟩
      out  := s.out ++ (if c0 = s.joy0.sent then [] else [0xFE, c0])
                    ++ (if c1 = s.joy1.sent then [] else [0xFF, c1]) }

/-- 42_cmd_joystick.md R181: Monitoring, the rate ignored. -/
def Obligations.JoyMonitorSelectsMonitoring : Prop :=
  ∀ (s : State) (rate : Byte),
    encode (.joyMonitor rate) = [0x17, rate] ∧
    exec (.joyMonitor rate) s = .next { s with mode := ⟨s.mode.pointer, .monitoring⟩ }

/-- 42_cmd_joystick.md R187, 41_cmd_pointer.md R162: joystick Off and its sticky flag; inside the
window, with the pointer disabled too, both are enabled again. -/
def Obligations.DisableJoyAndTheDualDisableQuirk : Prop :=
  ∀ s : State,
    encode .disableJoy = [0x1A] ∧
    (¬ (s.rt.ptrDisabled = true ∧ s.rt.inWindow = true) →
      exec .disableJoy s = .next { s with
        mode := ⟨s.mode.pointer, .off⟩
        rt   := { s.rt with joyDisabled := true } }) ∧
    (s.rt.ptrDisabled = true → s.rt.inWindow = true →
      exec .disableJoy s = .next { s with
        mode := ⟨.relative, .auto⟩
        rt   := { s.rt with joyDisabled := true, both := true } })

/-- 42_cmd_joystick.md R183 to R186: the four commands without a source handler refuse. That the
refusal carries the state with the frame consumed and the mark set is the model's reading
(notes/assumptions/7.md) of 40_framer.md R136, R137 and of the words before R183. -/
def Obligations.CommandsWithoutHandlerRefuse : Prop :=
  ∀ (s : State) (a b c d e f : Byte),
    encode .joyQmode = [0x15] ∧ encode .joyQuery = [0x16] ∧ encode .fireMonitor = [0x18] ∧
    encode (.joyKeycode a b c d e f) = [0x19, a, b, c, d, e, f] ∧
    exec .joyQmode s = .refused (.noSourceHandler 0x15
      { s with frame := [], refused := some (.noSourceHandler 0x15) }) ∧
    exec .joyQuery s = .refused (.noSourceHandler 0x16
      { s with frame := [], refused := some (.noSourceHandler 0x16) }) ∧
    exec .fireMonitor s = .refused (.noSourceHandler 0x18
      { s with frame := [], refused := some (.noSourceHandler 0x18) }) ∧
    exec (.joyKeycode a b c d e f) s = .refused (.noSourceHandler 0x19
      { s with frame := [], refused := some (.noSourceHandler 0x19) })

/-- 41_cmd_pointer.md R162 and §8's reset-window property (95_test_vectors.md X5): the two disables
in either order, inside and outside the window. -/
def Obligations.BothDisablesInTheWindowReenableBoth : Prop :=
  ∀ (s t u : State) (i j : Instr),
    (i = .disablePtr ∧ j = .disableJoy) ∨ (i = .disableJoy ∧ j = .disablePtr) →
    exec i s = .next t → exec j t = .next u →
    (s.rt.inWindow = true → u.mode = ⟨.relative, .auto⟩ ∧ u.rt.both = true) ∧
    (s.rt.inWindow = false → u.mode = ⟨.off, .off⟩ ∧ u.rt.both = s.rt.both) ∧
    u.rt.ptrDisabled = true ∧ u.rt.joyDisabled = true

/-! ## System, clock and memory commands -/

/-- 43_cmd_system.md R200, 10_state.md R60: the magic byte resets every field but the clock and the
refused mark; any other byte does nothing. -/
def Obligations.ResetCommandNeedsTheMagicByte : Prop :=
  ∀ (s : State) (m : Byte),
    encode (.reset m) = [0x80, m] ∧
    (m ≠ 0x01 → exec (.reset m) s = .next s) ∧
    exec (.reset 0x01) s = .next
      { frame := [], mode := ⟨.relative, .auto⟩, paused := false,
        abs := ⟨0, 0, resetMaxX, resetMaxY, 0x0A⟩,
        rel := ⟨1, 1, 1, 1, 1, 1, .top, 0x00, 0, 0⟩,
        joy0 := ⟨0, 0⟩, joy1 := ⟨0, 0⟩,
        btn := ⟨⟨false, false⟩, ⟨false, false⟩, false, false⟩,
        clock := s.clock, keys := Vector.replicate 128 false, pad := Vector.replicate 4 0,
        rt := ⟨resetTicks, true, false, false, false, false⟩, phase := .standard,
        refused := s.refused, mem := s.mem, calls := s.calls, live := s.live, out := s.out,
        consumed := s.consumed }

/-- 43_cmd_system.md R201, R202: PAUSE sets the flag outside the window and is ignored inside it;
RESUME does nothing itself. -/
def Obligations.PauseOutsideTheWindowAndResume : Prop :=
  ∀ s : State,
    encode .pause = [0x13] ∧ encode .resume = [0x11] ∧
    (s.rt.inWindow = false → exec .pause s = .next { s with paused := true }) ∧
    (s.rt.inWindow = true → exec .pause s = .next s) ∧
    exec .resume s = .next s

/-- 43_cmd_system.md R203, R204, 30_encoding.md R114: each clock byte is stored exactly if both its
halves are 0 to 9; READ_CLOCK sends the six bytes as stored. -/
def Obligations.ClockBytesAreStoredOneByOne : Prop :=
  ∀ (s : State) (a b c d e f : Byte) (keep : Byte → Byte → Byte),
    (∀ old new, keep old new =
      if new.toNat / 16 ≤ 9 ∧ new.toNat % 16 ≤ 9 then new else old) →
    encode (.setClock a b c d e f) = [0x1B, a, b, c, d, e, f] ∧ encode .readClock = [0x1C] ∧
    exec (.setClock a b c d e f) s = .next { s with clock :=
      ⟨keep s.clock.year a, keep s.clock.month b, keep s.clock.day c, keep s.clock.hour d,
        keep s.clock.minute e, keep s.clock.second f⟩ } ∧
    exec .readClock s = .next { s with out := s.out ++ [0xFC, s.clock.year, s.clock.month,
      s.clock.day, s.clock.hour, s.clock.minute, s.clock.second] }

/-- §8's round trip (95_test_vectors.md X2; 43_cmd_system.md R204, marked as derived): six valid BCD
bytes set are the six bytes read. -/
def Obligations.ClockRoundTrip : Prop :=
  ∀ (s t u : State) (a b c d e f : Byte),
    (∀ v ∈ [a, b, c, d, e, f], v.toNat / 16 ≤ 9 ∧ v.toNat % 16 ≤ 9) →
    exec (.setClock a b c d e f) s = .next t → exec .readClock t = .next u →
    u.out = s.out ++ [0xFC, a, b, c, d, e, f]

/-- 43_cmd_system.md R205, 20_memory.md R71, R72: six bytes from the address, modulo 2^16; an
unmapped address reads as zero. -/
def Obligations.MemReadSendsSixBytes : Prop :=
  ∀ (s : State) (a : Word16),
    encode (.memRead a) = [0x21, a.extractLsb' 8 8, a.extractLsb' 0 8] ∧
    exec (.memRead a) s = .next { s with out := s.out ++ [0xF6, 0x20, s.memRead a,
      s.memRead (a + 1), s.memRead (a + 2), s.memRead (a + 3), s.memRead (a + 4),
      s.memRead (a + 5)] } ∧
    (∀ b, s.memRead b = (memMap b).elim 0 (fun c => Memory.read s.mem c.key))

/-- 43_cmd_system.md R206, 45_custom_program.md R264: with a matched load EXECUTE enters the boot
stage whatever its address; in phase Standard it changes nothing. That it changes nothing in phases
Loading and Executing, which no run reaches, is the model's choice (notes/assumptions/13.md). -/
def Obligations.ExecuteNeedsAMatchedLoad : Prop :=
  ∀ (s : State) (a : Word16),
    encode (.execute a) = [0x22, a.extractLsb' 8 8, a.extractLsb' 0 8] ∧
    (∀ e, s.phase = .bootMatched e →
      exec (.execute a) s = .next { s with phase := .executing (.boot 0xFFFFFFFF 0) }) ∧
    ((∀ e, s.phase ≠ .bootMatched e) → exec (.execute a) s = .next s)

/-- 43_cmd_system.md R207: a new load with the seed; a count of 0 completes at once. -/
def Obligations.MemLoadStartsALoad : Prop :=
  ∀ (s : State) (a : Word16) (n : Byte),
    encode (.memLoad a n) = [0x20, a.extractLsb' 8 8, a.extractLsb' 0 8, n] ∧
    (n ≠ 0 → exec (.memLoad a n) s = .next { s with phase := .loading n.toNat a 0xFFFFFFFF }) ∧
    exec (.memLoad a 0) s = .next { s with phase := loadComplete 0xFFFFFFFF }

/-! ## Report commands -/

/-- 44_cmd_report.md R231, R235, R236: the stored bytes, in a packet of 8 bytes. -/
def Obligations.ReportsOfStoredBytes : Prop :=
  ∀ s : State,
    encode .qAction = [0x87] ∧ encode .qThresh = [0x8B] ∧ encode .qScale = [0x8C] ∧
    exec .qAction s = .next
      { s with out := s.out ++ [0xF6, 0x07, s.rel.action, 0, 0, 0, 0, 0] } ∧
    exec .qThresh s = .next
      { s with out := s.out ++ [0xF6, 0x0B, s.rel.xThr, s.rel.yThr, 0, 0, 0, 0] } ∧
    exec .qScale s = .next
      { s with out := s.out ++ [0xF6, 0x0C, s.rel.xScale, s.rel.yScale, 0, 0, 0, 0] }

/-- 44_cmd_report.md R232 to R234, R244: all three inquiries answer the current pointer mode. -/
def Obligations.ReportsOfThePointerMode : Prop :=
  ∀ (s : State) (i : Instr),
    encode .qPtrmode88 = [0x88] ∧ encode .qPtrmode89 = [0x89] ∧ encode .qPtrmode8A = [0x8A] ∧
    (i = .qPtrmode88 ∨ i = .qPtrmode89 ∨ i = .qPtrmode8A →
      exec i s = .next { s with out := s.out ++
        (if s.mode.pointer = .relative then [0xF6, 0x08, 0, 0, 0, 0, 0, 0]
        else if s.mode.pointer = .absolute then
          [0xF6, 0x09, s.abs.maxX.extractLsb' 8 8, s.abs.maxX.extractLsb' 0 8,
            s.abs.maxY.extractLsb' 8 8, s.abs.maxY.extractLsb' 0 8, 0, 0]
        else if s.mode.pointer = .cursorKeys then
          [0xF6, 0x0A, s.rel.keyDx, s.rel.keyDy, 0, 0, 0, 0]
        else [0xF6, 0x12, 0, 0, 0, 0, 0, 0]) })

/-- 44_cmd_report.md R240 to R242, R245: all three inquiries answer the current joystick mode. -/
def Obligations.ReportsOfTheJoystickMode : Prop :=
  ∀ (s : State) (i : Instr),
    encode .qJoymode94 = [0x94] ∧ encode .qJoymode95 = [0x95] ∧ encode .qJoymode99 = [0x99] ∧
    (i = .qJoymode94 ∨ i = .qJoymode95 ∨ i = .qJoymode99 →
      exec i s = .next { s with out := s.out ++ [0xF6,
        if s.mode.joystick = .auto then 0x14 else if s.mode.joystick = .monitoring then 0x17
        else 0x1A, 0, 0, 0, 0, 0, 0] })

/-- 44_cmd_report.md R237 to R239, R243: the Y direction, and whether each device is enabled. -/
def Obligations.ReportsOfYAxisAndAvailability : Prop :=
  ∀ (s : State) (i : Instr),
    encode .qYaxis8F = [0x8F] ∧ encode .qYaxis90 = [0x90] ∧
    encode .qPtravail = [0x92] ∧ encode .qJoyavail = [0x9A] ∧
    (i = .qYaxis8F ∨ i = .qYaxis90 →
      exec i s = .next { s with out := s.out ++
        [0xF6, if s.rel.yAxis.sign = -1 then 0x0F else 0x10, 0, 0, 0, 0, 0, 0] }) ∧
    exec .qPtravail s = .next { s with out := s.out ++
      [0xF6, if s.mode.pointer = .off then 0x12 else 0x00, 0, 0, 0, 0, 0, 0] } ∧
    exec .qJoyavail s = .next { s with out := s.out ++
      [0xF6, if s.mode.joystick = .off then 0x1A else 0x00, 0, 0, 0, 0, 0, 0] }

/-! ## The controller address space and the custom-program layer -/

/-- 20_memory.md R71, R78 (that distinct cells have distinct numbers is the model's,
notes/assumptions/9.md): after a write, a mapped address whose cell was written reads as the byte,
every other address as before; a host's write between calls sets exactly its cell. -/
def Obligations.MemWriteThenMemRead : Prop :=
  ∀ (s : State) (a a' : Word16) (b : Byte), s.mem.wf = true →
    (s.memWrite a b).memRead a' =
      (if memMap a ≠ none ∧ memMap a' = memMap a then b else s.memRead a') ∧
    (∃ m, s.memWrite a b = { s with mem := m }) ∧
    (∀ (c : TableCell) (rest : List Call), s.calls = .hostWrite c b :: rest →
      ∃ m, step s = .next { s with calls := rest, mem := m } ∧
        ∀ d : TableCell, Memory.read m d.key = if d = c then b else Memory.read s.mem d.key)

/-- 45_custom_program.md R261, 20_memory.md R72: one byte of load data. -/
def Obligations.LoaderByteStoresAndCounts : Prop :=
  ∀ (s : State) (b : Byte) (j0 j1 : Word16) (rest : List Call) (rem : Nat) (dest : Word16)
    (crc : Word32),
    s.calls = .submit b j0 j1 :: rest → s.phase = .loading rem dest crc → 1 ≤ rem →
    step s = .next { s with
      calls := rest
      live  := { s.live with joy0 := j0, joy1 := j1 }
      mem   := (s.memWrite dest b).mem
      phase := if rem = 1 then loadComplete (crcByte crc b)
               else .loading (rem - 1) (dest + 1) (crcByte crc b) }

/-- 45_custom_program.md R261, R271: a whole load, from its first data byte to the comparison of its
checksum; nothing is emitted and no byte reaches the framer. -/
def Obligations.LoadRunsToCompletion : Prop :=
  ∀ (bs : List Byte) (s : State) (j0 j1 : Word16) (dest : Word16) (crc : Word32), bs ≠ [] →
    s.phase = .loading bs.length dest crc → s.calls = bs.map (fun b => .submit b j0 j1) →
    Host.Core.run Sys2Proof.core bs.length s = .next { s with
      calls := []
      live  := { s.live with joy0 := j0, joy1 := j1 }
      mem   := (bs.foldl (fun (p : Word16 × State) b => (p.1 + 1, p.2.memWrite p.1 b)) (dest, s)).2.mem
      phase := loadComplete (bs.foldl crcByte crc) }

/-- 45_custom_program.md R260, R261, R265: the checksum's eight rounds, the first entry in registry
order that matches, for the load checksum and for the main signature, and what a load ends in. -/
def Obligations.RegistryMatchesTheFirstEntry : Prop :=
  ∀ (crc : Word32) (count : Nat) (b : Byte) (round : Word32 → Word32),
    (∀ c, round c = if c.getLsbD 31 then (c <<< 1) ^^^ 0x04C11DB7 else c <<< 1) →
    crcByte crc b = round^[8] (crc ^^^ (BitVec.ofNat 32 b.toNat <<< 24)) ∧
    (∀ e, loadMatch crc = some e ↔
      (registry e).loadCrc = crc ∧ ∀ d, d < e → (registry d).loadCrc ≠ crc) ∧
    (loadMatch crc = none ↔ ∀ e, (registry e).loadCrc ≠ crc) ∧
    (∀ e, mainMatch count crc = some e ↔
      ((registry e).mainLen = count ∧ (registry e).mainCrc = crc) ∧
      ∀ d, d < e → ¬ ((registry d).mainLen = count ∧ (registry d).mainCrc = crc)) ∧
    (mainMatch count crc = none ↔
      ∀ e, ¬ ((registry e).mainLen = count ∧ (registry e).mainCrc = crc)) ∧
    loadComplete crc = (loadMatch crc).elim .standard .bootMatched

/-- 45_custom_program.md R263, R265, R266, R267, R268, R270: in the boot stage every byte, whatever
its value, goes to the boot handler, which changes nothing but the stage; after it, to the program's
write handler: its local state, its bytes through the gate, then the warm reset if it asks to exit, or
its refusal (60_exceptions.md R342; the state it carries is the model's, notes/assumptions/7.md). That
a custom write handler leaves the tables as they are is the model's choice (notes/assumptions/12.md),
from the interface of R266. -/
def Obligations.BootStageTakesEveryByte : Prop :=
  ∀ (s : State) (b : Byte) (j0 j1 : Word16) (rest : List Call),
    s.calls = .submit b j0 j1 :: rest →
    (∀ crc count, s.phase = .executing (.boot crc count) →
      step s = .next { s with
        calls := rest
        live  := { s.live with joy0 := j0, joy1 := j1 }
        phase := .executing ((mainMatch (count + 1) (crcByte crc b)).elim
          (.boot (crcByte crc b) (count + 1)) (fun e => .main e (registry e).init)) }) ∧
    (∀ e loc, s.phase = .executing (.main e loc) →
      step s = match (registry e).write loc b s.view s.memRead with
        | .done loc' out exit =>
          (if exit then exec (.reset 0x01) else Host.Outcome.next) { s with
            calls := rest
            live  := { s.live with joy0 := j0, joy1 := j1 }
            phase := .executing (.main e loc')
            out   := if s.paused then s.out else s.out ++ out }
        | .refuse code => .refused (.customProgram e code { s with
            calls   := rest
            live    := { s.live with joy0 := j0, joy1 := j1 }
            refused := some (.customProgram e code) }))

/-- 45_custom_program.md R270, R347, 70_reset_and_hazards.md R382: Executing is left only by the
external reset or by the write handler's own exit, and then to Standard. -/
def Obligations.ExecutingIsLeftOnlyByReset : Prop :=
  ∀ (s t : State) (st : ExecStage), s.phase = .executing st → step s = .next t →
    (∃ st', t.phase = .executing st') ∨
    (t.phase = .standard ∧
      ((∃ cold rest, s.calls = .hwReset cold :: rest) ∨
       (∃ e loc b j0 j1 rest loc' out, st = .main e loc ∧ s.calls = .submit b j0 j1 :: rest ∧
         (registry e).write loc b s.view s.memRead = .done loc' out true)))

/-! ## Host events -/

/-- 47_host_events.md R331, R332, 10_state.md R60: the external reset, from any state. -/
def Obligations.ExternalResetValues : Prop :=
  ∀ (s : State) (cold : Bool) (rest : List Call),
    s.calls = .hwReset cold :: rest →
    step s = .next
      { frame := [], mode := ⟨.relative, .auto⟩, paused := false,
        abs := ⟨0, 0, resetMaxX, resetMaxY, 0x0A⟩,
        rel := ⟨1, 1, 1, 1, 1, 1, .top, 0x00, 0, 0⟩,
        joy0 := ⟨0, 0⟩, joy1 := ⟨0, 0⟩,
        btn := ⟨⟨false, false⟩, ⟨false, false⟩, false, false⟩,
        clock := if cold then ⟨0, 0, 0, 0, 0, 0⟩ else s.clock,
        keys := Vector.replicate 128 false, pad := Vector.replicate 4 0,
        rt := ⟨resetTicks, true, false, false, false, false⟩, phase := .standard,
        refused := s.refused, mem := s.mem, calls := rest, live := s.live, out := s.out,
        consumed := s.consumed }

/-- 47_host_events.md R330, 45_custom_program.md R266, R268, R269: the key's entry, the code unless
output is paused, then the read handler; and what the read handler call does: nothing without one,
else its local state and its bytes through the gate, or its refusal (60_exceptions.md R342; the state
it carries is the model's, notes/assumptions/7.md). That a custom read handler leaves the tables as
they are is the model's choice (notes/assumptions/12.md), from the interface of R266. -/
def Obligations.KeyEventUpdatesTheTableAndEmits : Prop :=
  (∀ (s : State) (code : Byte) (rest : List Call),
    s.calls = .keyEvent code :: rest →
    ∃ keys, step s = runRead (.key code) { s with
        calls := rest
        keys  := keys
        out   := if s.paused then s.out else s.out ++ [code] } ∧
      ∀ k : Fin 128, keys[k] =
        if k.val = code.toNat % 128 then decide (code.toNat < 128) else s.keys[k]) ∧
  (∀ (s : State) (ev : ReadEvent),
    ((∀ e loc, s.phase ≠ .executing (.main e loc)) → runRead ev s = .next s) ∧
    (∀ e loc, s.phase = .executing (.main e loc) →
      runRead ev s = match (registry e).read with
        | none => .next s
        | some handler =>
          match handler loc s.view s.memRead ev with
          | .done loc' out => .next { s with
              phase := .executing (.main e loc')
              out   := if s.paused then s.out else s.out ++ out }
          | .refuse code => .refused (.customProgram e code
              { s with refused := some (.customProgram e code) })))

/-! ## Tick -/

/-- 46_tick.md R281, R289: a tick on which the countdown runs decrements it and does nothing else;
at zero the window closes and the boot byte is emitted even under pause. -/
def Obligations.CountdownTick : Prop :=
  ∀ (s : State) (inp : LiveInputs) (rest : List Call) (n : Nat),
    s.calls = .tick inp :: rest →
    (s.rt.count = n + 2 → step s = .next { s with
      calls := rest, live := inp, consumed := ⟨0, 0, 0⟩, rt := { s.rt with count := n + 1 } }) ∧
    (s.rt.count = 1 → step s = .next { s with
      calls := rest, live := inp, consumed := ⟨0, 0, 0⟩,
      rt := { s.rt with count := 0, inWindow := false }, out := s.out ++ [0xF1] })

/-- 46_tick.md R282, which the spec marks as derived: as many ticks as the countdown has left emit
exactly the boot byte, on the last of them, and sample nothing. -/
def Obligations.CountdownEndsWithTheBootByte : Prop :=
  ∀ (inps : List LiveInputs) (s : State), inps ≠ [] → s.rt.count = inps.length →
    s.calls = inps.map .tick →
    (∀ k t, k < inps.length → Host.Core.run Sys2Proof.core k s = .next t → t.out = s.out) ∧
    ∃ live, Host.Core.run Sys2Proof.core inps.length s = .next { s with
      calls := [], live := live, consumed := ⟨0, 0, 0⟩,
      rt := { s.rt with count := 0, inWindow := false }, out := s.out ++ [0xF1] }

/-- 46_tick.md R283, R284, R285: step 2 takes the buttons from live bits 0 and 1 and the lanes from the
samples; step 3, with the pointer Off, shows lane-1 fire as the right button, and otherwise the right
button as lane-1 fire; the edges compare each button, either source, with its last state, which is
then overwritten. -/
def Obligations.FireDuplication : Prop :=
  ∀ s : State,
    step2Sample s = { s with
      btn  := { s.btn with
        l := ⟨s.live.buttons.getLsbD 0, s.btn.l.joy⟩
        r := ⟨s.live.buttons.getLsbD 1, s.btn.r.joy⟩ }
      joy0 := ⟨joySample s.live.joy0, s.joy0.sent⟩
      joy1 := ⟨joySample s.live.joy1, s.joy1.sent⟩ } ∧
    (s.mode.pointer = .off → step3DuplicateFire s = { s with btn := { s.btn with
      l := ⟨s.btn.l.ptr, false⟩, r := ⟨s.btn.r.ptr, s.joy1.cur.getLsbD 7⟩ } }) ∧
    (s.mode.pointer ≠ .off → step3DuplicateFire s = { s with
      btn := { s.btn with l := ⟨s.btn.l.ptr, false⟩, r := ⟨s.btn.r.ptr, false⟩ }
      joy1 := ⟨if s.btn.r.ptr then s.joy1.cur ||| 0x80 else s.joy1.cur, s.joy1.sent⟩ }) ∧
    s.btn.edges = ⟨s.btn.l.ptr || s.btn.l.joy, s.btn.r.ptr || s.btn.r.joy,
      decide ((s.btn.l.ptr || s.btn.l.joy) ≠ s.btn.prevL),
      decide ((s.btn.r.ptr || s.btn.r.joy) ≠ s.btn.prevR)⟩ ∧
    rememberButtons s = { s with btn := { s.btn with
      prevL := s.btn.l.ptr || s.btn.l.joy, prevR := s.btn.r.ptr || s.btn.r.joy } }

/-- 46_tick.md R286: with bit 2 of the action byte set, each button edge of the tick is a key code,
left before right, with bit 7 set when the button came up; otherwise nothing is emitted. -/
def Obligations.ButtonEdgesAsKeyCodes : Prop :=
  ∀ (s : State) (e : Edges),
    step4ButtonKeys e s = { s with out :=
      if s.paused ∨ s.rel.action.getLsbD 2 = false then s.out
      else s.out ++ (if e.edgeL then [if e.lDown then 0x74 else 0xF4] else [])
                 ++ (if e.edgeR then [if e.rDown then 0x75 else 0xF5] else []) }

/-- 46_tick.md R288, R289: the scaled delta moves the position, clamped without wrap; the pending
delta takes the live one in the two modes that drain it and is zeroed in the others. 00_scope.md R20:
scales 0 and 1 leave the delta, a larger one divides it, truncating toward zero. -/
def Obligations.AccumulationClampsThePosition : Prop :=
  (∀ s t : State, t = step5Accumulate s →
    (t.abs.x.toNat : Int) =
      min (max (s.abs.x.toNat + absScale s.live.dx s.rel.xScale) 0) s.abs.maxX.toNat ∧
    (t.abs.y.toNat : Int) =
      min (max (s.abs.y.toNat + absScale s.live.dy s.rel.yScale * s.rel.yAxis.sign) 0)
        s.abs.maxY.toNat ∧
    t = { s with
      abs := { s.abs with x := t.abs.x, y := t.abs.y }
      rel := { s.rel with
        pendX := if s.mode.pointer = .relative ∨ s.mode.pointer = .cursorKeys
                 then s.rel.pendX + s.live.dx else 0
        pendY := if s.mode.pointer = .relative ∨ s.mode.pointer = .cursorKeys
                 then s.rel.pendY + s.live.dy else 0 }
      consumed := ⟨s.live.dx, s.live.dy, s.consumed.wheelUsed⟩ }) ∧
  (∀ (delta : Int) (scale : Byte),
    (scale.toNat ≤ 1 → absScale delta scale = delta) ∧
    (2 ≤ scale.toNat →
      absScale delta scale = delta.sign * (delta.natAbs / scale.toNat : Nat)))

/-- 46_tick.md R290, R291, 30_encoding.md R117: the monitoring packet, and in Auto the change packet
of each lane that differs from the mask last sent, which is brought up to date also under pause.
R280, R285, R287: steps 2 to 5 in order, then in Monitoring step 6 alone and otherwise steps 7 to 10,
steps 6 and 7 skipped when step 4 was taken (`P_EXTRA_EVENTS` and step 11 follow: see
`WheelUsesOneUnit`). -/
def Obligations.JoystickReportPackets : Prop :=
  ∀ s : State,
    (∃ f d : Byte, step6Monitor s =
        { s with out := if s.paused then s.out else s.out ++ [f, d] } ∧
      f.toNat = (if s.joy0.cur.getLsbD 7 then 2 else 0) + (if s.joy1.cur.getLsbD 7 then 1 else 0) ∧
      d.toNat = s.joy0.cur.toNat % 16 * 16 + s.joy1.cur.toNat % 16) ∧
    (s.mode.joystick ≠ .auto → step7Joystick s = s) ∧
    (s.mode.joystick = .auto → step7Joystick s = { s with
      joy0 := ⟨s.joy0.cur, s.joy0.cur⟩
      joy1 := ⟨s.joy1.cur, s.joy1.cur⟩
      out  := if s.paused then s.out
              else s.out ++ (if s.joy0.cur = s.joy0.sent then [] else [0xFE, s.joy0.cur])
                         ++ (if s.joy1.cur = s.joy1.sent then [] else [0xFF, s.joy1.cur]) }) ∧
    (∀ (s3 s5 : State) (e : Edges) (taken : Bool),
      s3 = step3DuplicateFire (step2Sample s) → e = s3.btn.edges →
      s5 = step5Accumulate (step4ButtonKeys e (rememberButtons s3)) →
      taken = (s.rel.action.getLsbD 2 && (e.edgeL || e.edgeR)) →
      (s.mode.joystick = .monitoring →
        tickReports s = if taken then s5 else step6Monitor s5) ∧
      (s.mode.joystick ≠ .monitoring →
        tickReports s = step10Wheel (step9CursorKeys taken e
          (step8Relative e (if taken then s5 else step7Joystick s5)))))

/-- 46_tick.md R295, which the spec marks as derived (notes/assumptions/15.md): the loop of step 8
runs no longer than its bound lets it, and it ends because neither part reaches its threshold; for
thresholds up to 127 that is the pending motion itself. R294: with both parts below their thresholds
nothing is sent without a button edge, and exactly one packet with one, also when its parts are 0;
with a part at its threshold or above, a packet of the parts is sent and the loop goes on. -/
def Obligations.RelativeLoopTerminates : Prop :=
  ∀ (hdr : Byte) (xThr yThr : Nat) (ySign : Int) (pendX pendY px py : Int),
    1 ≤ xThr → 1 ≤ yThr → ySign = 1 ∨ ySign = -1 →
    px = min (max pendX (-128)) 127 → py = min (max (pendY * ySign) (-128)) 127 →
    (∀ (edge : Bool) (r : Drained),
      r = relPackets hdr xThr yThr ySign (relBound pendX pendY) edge pendX pendY →
      (min (max r.pendX (-128)) 127).natAbs < xThr ∧
      (min (max (r.pendY * ySign) (-128)) 127).natAbs < yThr ∧
      (xThr ≤ 127 → r.pendX.natAbs < xThr) ∧ (yThr ≤ 127 → r.pendY.natAbs < yThr) ∧
      r.bytes.length ≤ 3 * (1 + pendX.natAbs + pendY.natAbs)) ∧
    (px.natAbs < xThr → py.natAbs < yThr → ∀ fuel,
      relPackets hdr xThr yThr ySign fuel false pendX pendY = ⟨[], pendX, pendY⟩ ∧
      relPackets hdr xThr yThr ySign (fuel + 1) true pendX pendY =
        ⟨[hdr, BitVec.ofInt 8 px, BitVec.ofInt 8 py], pendX - px, pendY - py * ySign⟩) ∧
    (xThr ≤ px.natAbs ∨ yThr ≤ py.natAbs → ∀ (fuel : Nat) (edge : Bool) (r : Drained),
      r = relPackets hdr xThr yThr ySign fuel false (pendX - px) (pendY - py * ySign) →
      relPackets hdr xThr yThr ySign (fuel + 1) edge pendX pendY =
        ⟨hdr :: BitVec.ofInt 8 px :: BitVec.ofInt 8 py :: r.bytes, r.pendX, r.pendY⟩)

/-- 46_tick.md R293: exactly the motion that the packets carry is taken from the pending motion, and
every packet has the same header. R292, R296: step 8 as a whole, in pointer mode Relative only, its
header F8 to FB by the buttons, at most as many packets as R295 bounds. -/
def Obligations.RelativePacketsCarryTheMotion : Prop :=
  (∀ (hdr : Byte) (xThr yThr : Nat) (ySign : Int) (fuel : Nat) (edge : Bool) (pendX pendY : Int)
    (r : Drained),
    r = relPackets hdr xThr yThr ySign fuel edge pendX pendY →
    pendX = r.pendX + (motionOf r.bytes).1 ∧ pendY = r.pendY + (motionOf r.bytes).2 * ySign ∧
    ∃ parts : List (Byte × Byte), r.bytes = (parts.map (fun p => [hdr, p.1, p.2])).flatten) ∧
  (∀ (s : State) (e : Edges),
    (s.mode.pointer ≠ .relative → step8Relative e s = s) ∧
    (s.mode.pointer = .relative → ∀ (hdr : Byte) (r : Drained),
      hdr = (if e.lDown then (if e.rDown then 0xFB else 0xFA)
             else (if e.rDown then 0xF9 else 0xF8)) →
      r = relPackets hdr s.rel.xThr.toNat s.rel.yThr.toNat s.rel.yAxis.sign
        (1 + s.rel.pendX.natAbs + s.rel.pendY.natAbs) (e.edgeL || e.edgeR)
        s.rel.pendX s.rel.pendY →
      step8Relative e s = { s with
        rel := { s.rel with pendX := r.pendX, pendY := r.pendY }
        out := if s.paused then s.out else s.out ++ r.bytes }))

/-- 46_tick.md R297, R298, R299: one axis of cursor-key emulation: `k` pairs of the key of the delta's
sign, at most the cap, the rest carried, and below one step unless the cap stopped it; and step 9 as a
whole, in pointer mode CursorKeys only: X, then Y, each with a step of 0 used as 1 and a cap of 10,
then the button codes unless step 4 sent them. -/
def Obligations.CursorAxisDrainsUpToTheCap : Prop :=
  (∀ (stepSize : Nat) (pos neg : Byte) (cap : Nat) (pend : Int), 1 ≤ stepSize →
    ∃ k, k ≤ cap ∧
      (cursorAxis stepSize pos neg cap pend).1 =
        (List.replicate k [if 0 < pend then pos else neg,
          (if 0 < pend then pos else neg) ||| 0x80]).flatten ∧
      (cursorAxis stepSize pos neg cap pend).2 = pend - pend.sign * (stepSize * k : Nat) ∧
      stepSize * k ≤ pend.natAbs ∧
      (k < cap → pend.natAbs - stepSize * k < stepSize)) ∧
  (∀ (s : State) (taken : Bool) (e : Edges),
    (s.mode.pointer ≠ .cursorKeys → step9CursorKeys taken e s = s) ∧
    (s.mode.pointer = .cursorKeys → ∀ (x y : List Byte × Int),
      x = cursorAxis (if s.rel.keyDx.toNat = 0 then 1 else s.rel.keyDx.toNat) 0x4D 0x4B 10
        s.rel.pendX →
      y = cursorAxis (if s.rel.keyDy.toNat = 0 then 1 else s.rel.keyDy.toNat) 0x50 0x48 10
        s.rel.pendY →
      step9CursorKeys taken e s = { s with
        rel := { s.rel with pendX := x.2, pendY := y.2 }
        out := if s.paused then s.out
               else s.out ++ x.1 ++ y.1 ++
                 (if taken then []
                  else (if e.edgeL then [if e.lDown then 0x74 else 0xF4] else []) ++
                       (if e.edgeR then [if e.rDown then 0x75 else 0xF5] else [])) }))

/-- 46_tick.md R300: one wheel unit a tick: the pair of its direction, and the unit consumed. R301,
R303, R280: after it, but not in Monitoring, the other synthetic events, their bytes through the gate
and their last values stored, and last of all step 11, the read handler call. R280: a tick never
refuses, except through a custom handler. 60_exceptions.md R342: under a definition of
`P_EXTRA_EVENTS` that makes a refusal, the tick is that refusal. That the machine's own definition
makes none is the model's reading (notes/assumptions/8.md), and so is the state that a refusal carries
(notes/assumptions/7.md). -/
def Obligations.WheelUsesOneUnit : Prop :=
  (∀ s : State,
    (0 < s.live.wheel → step10Wheel s = { s with
      consumed := { s.consumed with wheelUsed := 1 }
      out := if s.paused then s.out else s.out ++ [wheelUpKey, wheelUpKey ||| 0x80] }) ∧
    (s.live.wheel < 0 → step10Wheel s = { s with
      consumed := { s.consumed with wheelUsed := -1 }
      out := if s.paused then s.out else s.out ++ [wheelDownKey, wheelDownKey ||| 0x80] }) ∧
    (s.live.wheel = 0 → step10Wheel s = { s with
      consumed := { s.consumed with wheelUsed := 0 } })) ∧
  (∀ (s u : State) (inp : LiveInputs) (rest : List Call),
    s.calls = .tick inp :: rest → s.rt.count = 0 →
    u = tickReports { s with calls := rest, live := inp, consumed := ⟨0, 0, 0⟩ } →
    (s.mode.joystick = .monitoring → step s = runRead (.tick inp) u) ∧
    (s.mode.joystick ≠ .monitoring →
      step s = runRead (.tick inp) { u with
        pad := (extraEventsOf u.view u.phase u.mem inp).last
        out := if u.paused then u.out
               else u.out ++ (extraEventsOf u.view u.phase u.mem inp).out })) ∧
  (∀ (s : State) (inp : LiveInputs) (rest : List Call), s.calls = .tick inp :: rest →
    (∃ t, step s = .next t) ∨
    (∃ e loc rh code t, s.phase = .executing (.main e loc) ∧ (registry e).read = some rh ∧
      step s = .refused (.customProgram e code t))) ∧
  (∀ (d : ExtraDefinition) (s u : State) (code : Nat),
    s.rt.count = 0 → s.mode.joystick ≠ .monitoring →
    u = tickReports { s with consumed := ⟨0, 0, 0⟩ } →
    d u.view u.phase u.mem u.live = .refuse code →
    tickWith d s = .refused (.extraEvents code { u with refused := some (.extraEvents code) }))

/-- §8's scenario of a relative packet (95_test_vectors.md X7), for every small positive delta:
pointer Relative, threshold 1, nothing pending, no button, lanes unchanged. -/
def Obligations.SmallRelativeMotionIsOnePacket : Prop :=
  ∀ s : State, s.paused = false → s.mode = ⟨.relative, .auto⟩ →
    s.rel.xThr = 1 → s.rel.yThr = 1 → s.rel.pendX = 0 → s.rel.pendY = 0 →
    s.btn.prevL = false → s.btn.prevR = false →
    joySample s.live.joy0 = s.joy0.sent → joySample s.live.joy1 = s.joy1.sent →
    s.live.buttons = 0 → s.live.wheel = 0 → 1 ≤ s.live.dx → s.live.dx ≤ 127 → s.live.dy = 0 →
    (tickReports s).out = s.out ++ [0xF8, BitVec.ofInt 8 s.live.dx, 0x00] ∧
    (tickReports s).rel.pendX = 0 ∧ (tickReports s).rel.pendY = 0

/-- 46_tick.md R302: a tick under pause emits nothing once the countdown is over. -/
def Obligations.PausedTickEmitsNothing : Prop :=
  ∀ (s t : State) (inp : LiveInputs) (rest : List Call),
    s.calls = .tick inp :: rest → s.rt.count = 0 → s.paused = true → step s = .next t →
    t.out = s.out

/-- 46_tick.md R302, the part that the spec marks as derived: every state write of steps 2 to 10
(but for `P_EXTRA_EVENTS`, a parameter that may read the flag) happens as if not paused. -/
def Obligations.PausedTickUpdatesStateAsIfNotPaused : Prop :=
  ∀ s : State, tickReports { s with paused := true } =
    { tickReports { s with paused := false } with paused := true, out := s.out }

/-- 46_tick.md, 10_state.md R33, R34, R42, R47, R48: what no tick changes. That a custom read handler
leaves the tables as they are is the model's choice (notes/assumptions/12.md), from the interface of
45_custom_program.md R266. -/
def Obligations.TickLeavesTheConfiguration : Prop :=
  ∀ (s t : State) (inp : LiveInputs) (rest : List Call),
    s.calls = .tick inp :: rest → step s = .next t →
    t.frame = s.frame ∧ t.mode = s.mode ∧ t.paused = s.paused ∧ t.clock = s.clock ∧
    t.keys = s.keys ∧ t.refused = s.refused ∧ t.mem = s.mem ∧ t.calls = rest ∧ t.live = inp ∧
    t.abs = { s.abs with x := t.abs.x, y := t.abs.y } ∧
    t.rel = { s.rel with pendX := t.rel.pendX, pendY := t.rel.pendY } ∧
    t.rt = { s.rt with count := t.rt.count, inWindow := t.rt.inWindow } ∧
    t.rt.count = s.rt.count - 1 ∧
    (t.phase = s.phase ∨ ∃ e l l', s.phase = .executing (.main e l) ∧ t.phase = .executing (.main e l'))

/-! ## Whole-machine rules and invariants -/

/-- 10_state.md R47, 60_exceptions.md R351: no call changes the clock but the byte that completes
SET_CLOCK and a cold reset. -/
def Obligations.ClockChangesOnlyBySetClockOrColdReset : Prop :=
  ∀ s t : State, step s = .next t → t.clock ≠ s.clock →
    (∃ a b c d e f, Completes (.setClock a b c d e f) s) ∨ (∃ rest, s.calls = .hwReset true :: rest)

/-- 10_state.md R34, 43_cmd_system.md R201: output becomes paused only by PAUSE outside the window.
-/
def Obligations.PausedIsSetOnlyByPause : Prop :=
  ∀ s t : State, step s = .next t → s.paused = false → t.paused = true →
    Completes .pause s ∧ s.rt.inWindow = false

/-- 10_state.md R61, which the spec marks as derived: every step keeps all seven items. -/
def Obligations.StepKeepsSpecInvariant : Prop :=
  ∀ s t : State, SpecInv s → step s = .next t → SpecInv t

/-- 10_state.md R41, R44, R47, R55 and the canonical form of the tables: every step keeps them. -/
def Obligations.StepKeepsFieldInvariant : Prop :=
  ∀ s t : State, FieldInv s → step s = .next t → FieldInv t

/-- 70_reset_and_hazards.md R371: the power-on state meets both invariants. -/
def Obligations.PowerOnStateMeetsTheInvariants : Prop :=
  SpecInv State.reset ∧ FieldInv State.reset
end

