-- ==== Sys2Proof/Laws/State.lean ====
section
/-!
SUPPORT. What the updates that the operations make leave in each field: one lemma a field an update,
true by `rfl`. Generated in one form: `<update>_<field>`.
-/

namespace Sys2Proof.Machine

/-! ## emit -/

@[simp] theorem emit_frame (bs : List Byte) (s : State) :
    (State.emit bs s).frame = s.frame := rfl

@[simp] theorem emit_mode (bs : List Byte) (s : State) :
    (State.emit bs s).mode = s.mode := rfl

@[simp] theorem emit_paused (bs : List Byte) (s : State) :
    (State.emit bs s).paused = s.paused := rfl

@[simp] theorem emit_abs (bs : List Byte) (s : State) :
    (State.emit bs s).abs = s.abs := rfl

@[simp] theorem emit_rel (bs : List Byte) (s : State) :
    (State.emit bs s).rel = s.rel := rfl

@[simp] theorem emit_joy0 (bs : List Byte) (s : State) :
    (State.emit bs s).joy0 = s.joy0 := rfl

@[simp] theorem emit_joy1 (bs : List Byte) (s : State) :
    (State.emit bs s).joy1 = s.joy1 := rfl

@[simp] theorem emit_btn (bs : List Byte) (s : State) :
    (State.emit bs s).btn = s.btn := rfl

@[simp] theorem emit_clock (bs : List Byte) (s : State) :
    (State.emit bs s).clock = s.clock := rfl

@[simp] theorem emit_keys (bs : List Byte) (s : State) :
    (State.emit bs s).keys = s.keys := rfl

@[simp] theorem emit_pad (bs : List Byte) (s : State) :
    (State.emit bs s).pad = s.pad := rfl

@[simp] theorem emit_rt (bs : List Byte) (s : State) :
    (State.emit bs s).rt = s.rt := rfl

@[simp] theorem emit_phase (bs : List Byte) (s : State) :
    (State.emit bs s).phase = s.phase := rfl

@[simp] theorem emit_refused (bs : List Byte) (s : State) :
    (State.emit bs s).refused = s.refused := rfl

@[simp] theorem emit_mem (bs : List Byte) (s : State) :
    (State.emit bs s).mem = s.mem := rfl

@[simp] theorem emit_calls (bs : List Byte) (s : State) :
    (State.emit bs s).calls = s.calls := rfl

@[simp] theorem emit_live (bs : List Byte) (s : State) :
    (State.emit bs s).live = s.live := rfl

@[simp] theorem emit_out (bs : List Byte) (s : State) :
    (State.emit bs s).out = s.out ++ bs := rfl

@[simp] theorem emit_consumed (bs : List Byte) (s : State) :
    (State.emit bs s).consumed = s.consumed := rfl

/-! ## emitR -/

@[simp] theorem emitR_frame (bs : List Byte) (s : State) :
    (State.emitR bs s).frame = s.frame := rfl

@[simp] theorem emitR_mode (bs : List Byte) (s : State) :
    (State.emitR bs s).mode = s.mode := rfl

@[simp] theorem emitR_paused (bs : List Byte) (s : State) :
    (State.emitR bs s).paused = s.paused := rfl

@[simp] theorem emitR_abs (bs : List Byte) (s : State) :
    (State.emitR bs s).abs = s.abs := rfl

@[simp] theorem emitR_rel (bs : List Byte) (s : State) :
    (State.emitR bs s).rel = s.rel := rfl

@[simp] theorem emitR_joy0 (bs : List Byte) (s : State) :
    (State.emitR bs s).joy0 = s.joy0 := rfl

@[simp] theorem emitR_joy1 (bs : List Byte) (s : State) :
    (State.emitR bs s).joy1 = s.joy1 := rfl

@[simp] theorem emitR_btn (bs : List Byte) (s : State) :
    (State.emitR bs s).btn = s.btn := rfl

@[simp] theorem emitR_clock (bs : List Byte) (s : State) :
    (State.emitR bs s).clock = s.clock := rfl

@[simp] theorem emitR_keys (bs : List Byte) (s : State) :
    (State.emitR bs s).keys = s.keys := rfl

@[simp] theorem emitR_pad (bs : List Byte) (s : State) :
    (State.emitR bs s).pad = s.pad := rfl

@[simp] theorem emitR_rt (bs : List Byte) (s : State) :
    (State.emitR bs s).rt = s.rt := rfl

@[simp] theorem emitR_phase (bs : List Byte) (s : State) :
    (State.emitR bs s).phase = s.phase := rfl

@[simp] theorem emitR_refused (bs : List Byte) (s : State) :
    (State.emitR bs s).refused = s.refused := rfl

@[simp] theorem emitR_mem (bs : List Byte) (s : State) :
    (State.emitR bs s).mem = s.mem := rfl

@[simp] theorem emitR_calls (bs : List Byte) (s : State) :
    (State.emitR bs s).calls = s.calls := rfl

@[simp] theorem emitR_live (bs : List Byte) (s : State) :
    (State.emitR bs s).live = s.live := rfl

@[simp] theorem emitR_out (bs : List Byte) (s : State) :
    (State.emitR bs s).out = if s.paused then s.out else s.out ++ bs := rfl

@[simp] theorem emitR_consumed (bs : List Byte) (s : State) :
    (State.emitR bs s).consumed = s.consumed := rfl

/-! ## memWrite -/

@[simp] theorem memWrite_frame (a : Word16) (b : Byte) (s : State) :
    (State.memWrite a b s).frame = s.frame := rfl

@[simp] theorem memWrite_mode (a : Word16) (b : Byte) (s : State) :
    (State.memWrite a b s).mode = s.mode := rfl

@[simp] theorem memWrite_paused (a : Word16) (b : Byte) (s : State) :
    (State.memWrite a b s).paused = s.paused := rfl

@[simp] theorem memWrite_abs (a : Word16) (b : Byte) (s : State) :
    (State.memWrite a b s).abs = s.abs := rfl

@[simp] theorem memWrite_rel (a : Word16) (b : Byte) (s : State) :
    (State.memWrite a b s).rel = s.rel := rfl

@[simp] theorem memWrite_joy0 (a : Word16) (b : Byte) (s : State) :
    (State.memWrite a b s).joy0 = s.joy0 := rfl

@[simp] theorem memWrite_joy1 (a : Word16) (b : Byte) (s : State) :
    (State.memWrite a b s).joy1 = s.joy1 := rfl

@[simp] theorem memWrite_btn (a : Word16) (b : Byte) (s : State) :
    (State.memWrite a b s).btn = s.btn := rfl

@[simp] theorem memWrite_clock (a : Word16) (b : Byte) (s : State) :
    (State.memWrite a b s).clock = s.clock := rfl

@[simp] theorem memWrite_keys (a : Word16) (b : Byte) (s : State) :
    (State.memWrite a b s).keys = s.keys := rfl

@[simp] theorem memWrite_pad (a : Word16) (b : Byte) (s : State) :
    (State.memWrite a b s).pad = s.pad := rfl

@[simp] theorem memWrite_rt (a : Word16) (b : Byte) (s : State) :
    (State.memWrite a b s).rt = s.rt := rfl

@[simp] theorem memWrite_phase (a : Word16) (b : Byte) (s : State) :
    (State.memWrite a b s).phase = s.phase := rfl

@[simp] theorem memWrite_refused (a : Word16) (b : Byte) (s : State) :
    (State.memWrite a b s).refused = s.refused := rfl

@[simp] theorem memWrite_calls (a : Word16) (b : Byte) (s : State) :
    (State.memWrite a b s).calls = s.calls := rfl

@[simp] theorem memWrite_live (a : Word16) (b : Byte) (s : State) :
    (State.memWrite a b s).live = s.live := rfl

@[simp] theorem memWrite_out (a : Word16) (b : Byte) (s : State) :
    (State.memWrite a b s).out = s.out := rfl

@[simp] theorem memWrite_consumed (a : Word16) (b : Byte) (s : State) :
    (State.memWrite a b s).consumed = s.consumed := rfl

/-! ## tableWrite -/

@[simp] theorem tableWrite_frame (c : TableCell) (b : Byte) (s : State) :
    (State.tableWrite c b s).frame = s.frame := rfl

@[simp] theorem tableWrite_mode (c : TableCell) (b : Byte) (s : State) :
    (State.tableWrite c b s).mode = s.mode := rfl

@[simp] theorem tableWrite_paused (c : TableCell) (b : Byte) (s : State) :
    (State.tableWrite c b s).paused = s.paused := rfl

@[simp] theorem tableWrite_abs (c : TableCell) (b : Byte) (s : State) :
    (State.tableWrite c b s).abs = s.abs := rfl

@[simp] theorem tableWrite_rel (c : TableCell) (b : Byte) (s : State) :
    (State.tableWrite c b s).rel = s.rel := rfl

@[simp] theorem tableWrite_joy0 (c : TableCell) (b : Byte) (s : State) :
    (State.tableWrite c b s).joy0 = s.joy0 := rfl

@[simp] theorem tableWrite_joy1 (c : TableCell) (b : Byte) (s : State) :
    (State.tableWrite c b s).joy1 = s.joy1 := rfl

@[simp] theorem tableWrite_btn (c : TableCell) (b : Byte) (s : State) :
    (State.tableWrite c b s).btn = s.btn := rfl

@[simp] theorem tableWrite_clock (c : TableCell) (b : Byte) (s : State) :
    (State.tableWrite c b s).clock = s.clock := rfl

@[simp] theorem tableWrite_keys (c : TableCell) (b : Byte) (s : State) :
    (State.tableWrite c b s).keys = s.keys := rfl

@[simp] theorem tableWrite_pad (c : TableCell) (b : Byte) (s : State) :
    (State.tableWrite c b s).pad = s.pad := rfl

@[simp] theorem tableWrite_rt (c : TableCell) (b : Byte) (s : State) :
    (State.tableWrite c b s).rt = s.rt := rfl

@[simp] theorem tableWrite_phase (c : TableCell) (b : Byte) (s : State) :
    (State.tableWrite c b s).phase = s.phase := rfl

@[simp] theorem tableWrite_refused (c : TableCell) (b : Byte) (s : State) :
    (State.tableWrite c b s).refused = s.refused := rfl

@[simp] theorem tableWrite_mem (c : TableCell) (b : Byte) (s : State) :
    (State.tableWrite c b s).mem = s.mem.write c.key b := rfl

@[simp] theorem tableWrite_calls (c : TableCell) (b : Byte) (s : State) :
    (State.tableWrite c b s).calls = s.calls := rfl

@[simp] theorem tableWrite_live (c : TableCell) (b : Byte) (s : State) :
    (State.tableWrite c b s).live = s.live := rfl

@[simp] theorem tableWrite_out (c : TableCell) (b : Byte) (s : State) :
    (State.tableWrite c b s).out = s.out := rfl

@[simp] theorem tableWrite_consumed (c : TableCell) (b : Byte) (s : State) :
    (State.tableWrite c b s).consumed = s.consumed := rfl

/-! ## marked -/

@[simp] theorem marked_frame (r : RefuseReason) (s : State) :
    (State.marked r s).frame = s.frame := rfl

@[simp] theorem marked_mode (r : RefuseReason) (s : State) :
    (State.marked r s).mode = s.mode := rfl

@[simp] theorem marked_paused (r : RefuseReason) (s : State) :
    (State.marked r s).paused = s.paused := rfl

@[simp] theorem marked_abs (r : RefuseReason) (s : State) :
    (State.marked r s).abs = s.abs := rfl

@[simp] theorem marked_rel (r : RefuseReason) (s : State) :
    (State.marked r s).rel = s.rel := rfl

@[simp] theorem marked_joy0 (r : RefuseReason) (s : State) :
    (State.marked r s).joy0 = s.joy0 := rfl

@[simp] theorem marked_joy1 (r : RefuseReason) (s : State) :
    (State.marked r s).joy1 = s.joy1 := rfl

@[simp] theorem marked_btn (r : RefuseReason) (s : State) :
    (State.marked r s).btn = s.btn := rfl

@[simp] theorem marked_clock (r : RefuseReason) (s : State) :
    (State.marked r s).clock = s.clock := rfl

@[simp] theorem marked_keys (r : RefuseReason) (s : State) :
    (State.marked r s).keys = s.keys := rfl

@[simp] theorem marked_pad (r : RefuseReason) (s : State) :
    (State.marked r s).pad = s.pad := rfl

@[simp] theorem marked_rt (r : RefuseReason) (s : State) :
    (State.marked r s).rt = s.rt := rfl

@[simp] theorem marked_phase (r : RefuseReason) (s : State) :
    (State.marked r s).phase = s.phase := rfl

@[simp] theorem marked_refused (r : RefuseReason) (s : State) :
    (State.marked r s).refused = some r := rfl

@[simp] theorem marked_mem (r : RefuseReason) (s : State) :
    (State.marked r s).mem = s.mem := rfl

@[simp] theorem marked_calls (r : RefuseReason) (s : State) :
    (State.marked r s).calls = s.calls := rfl

@[simp] theorem marked_live (r : RefuseReason) (s : State) :
    (State.marked r s).live = s.live := rfl

@[simp] theorem marked_out (r : RefuseReason) (s : State) :
    (State.marked r s).out = s.out := rfl

@[simp] theorem marked_consumed (r : RefuseReason) (s : State) :
    (State.marked r s).consumed = s.consumed := rfl

/-! ## notePtrChange -/

@[simp] theorem notePtrChange_frame (s : State) :
    (notePtrChange s).frame = s.frame := rfl

@[simp] theorem notePtrChange_mode (s : State) :
    (notePtrChange s).mode = s.mode := rfl

@[simp] theorem notePtrChange_paused (s : State) :
    (notePtrChange s).paused = s.paused := rfl

@[simp] theorem notePtrChange_abs (s : State) :
    (notePtrChange s).abs = s.abs := rfl

@[simp] theorem notePtrChange_rel (s : State) :
    (notePtrChange s).rel = s.rel := rfl

@[simp] theorem notePtrChange_joy0 (s : State) :
    (notePtrChange s).joy0 = s.joy0 := rfl

@[simp] theorem notePtrChange_joy1 (s : State) :
    (notePtrChange s).joy1 = s.joy1 := rfl

@[simp] theorem notePtrChange_btn (s : State) :
    (notePtrChange s).btn = s.btn := rfl

@[simp] theorem notePtrChange_clock (s : State) :
    (notePtrChange s).clock = s.clock := rfl

@[simp] theorem notePtrChange_keys (s : State) :
    (notePtrChange s).keys = s.keys := rfl

@[simp] theorem notePtrChange_pad (s : State) :
    (notePtrChange s).pad = s.pad := rfl

@[simp] theorem notePtrChange_rt (s : State) :
    (notePtrChange s).rt = { s.rt with ptrChangedInWindow := s.rt.ptrChangedInWindow || s.rt.inWindow } := rfl

@[simp] theorem notePtrChange_phase (s : State) :
    (notePtrChange s).phase = s.phase := rfl

@[simp] theorem notePtrChange_refused (s : State) :
    (notePtrChange s).refused = s.refused := rfl

@[simp] theorem notePtrChange_mem (s : State) :
    (notePtrChange s).mem = s.mem := rfl

@[simp] theorem notePtrChange_calls (s : State) :
    (notePtrChange s).calls = s.calls := rfl

@[simp] theorem notePtrChange_live (s : State) :
    (notePtrChange s).live = s.live := rfl

@[simp] theorem notePtrChange_out (s : State) :
    (notePtrChange s).out = s.out := rfl

@[simp] theorem notePtrChange_consumed (s : State) :
    (notePtrChange s).consumed = s.consumed := rfl

/-! ## engineReset -/

@[simp] theorem engineReset_frame (cold : Bool) (s : State) :
    (engineReset cold s).frame = State.reset.frame := rfl

@[simp] theorem engineReset_mode (cold : Bool) (s : State) :
    (engineReset cold s).mode = State.reset.mode := rfl

@[simp] theorem engineReset_paused (cold : Bool) (s : State) :
    (engineReset cold s).paused = State.reset.paused := rfl

@[simp] theorem engineReset_abs (cold : Bool) (s : State) :
    (engineReset cold s).abs = State.reset.abs := rfl

@[simp] theorem engineReset_rel (cold : Bool) (s : State) :
    (engineReset cold s).rel = State.reset.rel := rfl

@[simp] theorem engineReset_joy0 (cold : Bool) (s : State) :
    (engineReset cold s).joy0 = State.reset.joy0 := rfl

@[simp] theorem engineReset_joy1 (cold : Bool) (s : State) :
    (engineReset cold s).joy1 = State.reset.joy1 := rfl

@[simp] theorem engineReset_btn (cold : Bool) (s : State) :
    (engineReset cold s).btn = State.reset.btn := rfl

@[simp] theorem engineReset_clock (cold : Bool) (s : State) :
    (engineReset cold s).clock = if cold then clockZero else s.clock := rfl

@[simp] theorem engineReset_keys (cold : Bool) (s : State) :
    (engineReset cold s).keys = State.reset.keys := rfl

@[simp] theorem engineReset_pad (cold : Bool) (s : State) :
    (engineReset cold s).pad = State.reset.pad := rfl

@[simp] theorem engineReset_rt (cold : Bool) (s : State) :
    (engineReset cold s).rt = State.reset.rt := rfl

@[simp] theorem engineReset_phase (cold : Bool) (s : State) :
    (engineReset cold s).phase = State.reset.phase := rfl

@[simp] theorem engineReset_refused (cold : Bool) (s : State) :
    (engineReset cold s).refused = s.refused := rfl

@[simp] theorem engineReset_mem (cold : Bool) (s : State) :
    (engineReset cold s).mem = s.mem := rfl

@[simp] theorem engineReset_calls (cold : Bool) (s : State) :
    (engineReset cold s).calls = s.calls := rfl

@[simp] theorem engineReset_live (cold : Bool) (s : State) :
    (engineReset cold s).live = s.live := rfl

@[simp] theorem engineReset_out (cold : Bool) (s : State) :
    (engineReset cold s).out = s.out := rfl

@[simp] theorem engineReset_consumed (cold : Bool) (s : State) :
    (engineReset cold s).consumed = s.consumed := rfl

/-! ## sampleLanes -/

@[simp] theorem sampleLanes_frame (s : State) :
    (sampleLanes s).frame = s.frame := rfl

@[simp] theorem sampleLanes_mode (s : State) :
    (sampleLanes s).mode = s.mode := rfl

@[simp] theorem sampleLanes_paused (s : State) :
    (sampleLanes s).paused = s.paused := rfl

@[simp] theorem sampleLanes_abs (s : State) :
    (sampleLanes s).abs = s.abs := rfl

@[simp] theorem sampleLanes_rel (s : State) :
    (sampleLanes s).rel = s.rel := rfl

@[simp] theorem sampleLanes_joy0 (s : State) :
    (sampleLanes s).joy0 = { s.joy0 with cur := joySample s.live.joy0 } := rfl

@[simp] theorem sampleLanes_joy1 (s : State) :
    (sampleLanes s).joy1 = { s.joy1 with cur := joySample s.live.joy1 } := rfl

@[simp] theorem sampleLanes_btn (s : State) :
    (sampleLanes s).btn = s.btn := rfl

@[simp] theorem sampleLanes_clock (s : State) :
    (sampleLanes s).clock = s.clock := rfl

@[simp] theorem sampleLanes_keys (s : State) :
    (sampleLanes s).keys = s.keys := rfl

@[simp] theorem sampleLanes_pad (s : State) :
    (sampleLanes s).pad = s.pad := rfl

@[simp] theorem sampleLanes_rt (s : State) :
    (sampleLanes s).rt = s.rt := rfl

@[simp] theorem sampleLanes_phase (s : State) :
    (sampleLanes s).phase = s.phase := rfl

@[simp] theorem sampleLanes_refused (s : State) :
    (sampleLanes s).refused = s.refused := rfl

@[simp] theorem sampleLanes_mem (s : State) :
    (sampleLanes s).mem = s.mem := rfl

@[simp] theorem sampleLanes_calls (s : State) :
    (sampleLanes s).calls = s.calls := rfl

@[simp] theorem sampleLanes_live (s : State) :
    (sampleLanes s).live = s.live := rfl

@[simp] theorem sampleLanes_out (s : State) :
    (sampleLanes s).out = s.out := rfl

@[simp] theorem sampleLanes_consumed (s : State) :
    (sampleLanes s).consumed = s.consumed := rfl

/-! ## lanesSent -/

@[simp] theorem lanesSent_frame (s : State) :
    (lanesSent s).frame = s.frame := rfl

@[simp] theorem lanesSent_mode (s : State) :
    (lanesSent s).mode = s.mode := rfl

@[simp] theorem lanesSent_paused (s : State) :
    (lanesSent s).paused = s.paused := rfl

@[simp] theorem lanesSent_abs (s : State) :
    (lanesSent s).abs = s.abs := rfl

@[simp] theorem lanesSent_rel (s : State) :
    (lanesSent s).rel = s.rel := rfl

@[simp] theorem lanesSent_joy0 (s : State) :
    (lanesSent s).joy0 = { s.joy0 with sent := s.joy0.cur } := rfl

@[simp] theorem lanesSent_joy1 (s : State) :
    (lanesSent s).joy1 = { s.joy1 with sent := s.joy1.cur } := rfl

@[simp] theorem lanesSent_btn (s : State) :
    (lanesSent s).btn = s.btn := rfl

@[simp] theorem lanesSent_clock (s : State) :
    (lanesSent s).clock = s.clock := rfl

@[simp] theorem lanesSent_keys (s : State) :
    (lanesSent s).keys = s.keys := rfl

@[simp] theorem lanesSent_pad (s : State) :
    (lanesSent s).pad = s.pad := rfl

@[simp] theorem lanesSent_rt (s : State) :
    (lanesSent s).rt = s.rt := rfl

@[simp] theorem lanesSent_phase (s : State) :
    (lanesSent s).phase = s.phase := rfl

@[simp] theorem lanesSent_refused (s : State) :
    (lanesSent s).refused = s.refused := rfl

@[simp] theorem lanesSent_mem (s : State) :
    (lanesSent s).mem = s.mem := rfl

@[simp] theorem lanesSent_calls (s : State) :
    (lanesSent s).calls = s.calls := rfl

@[simp] theorem lanesSent_live (s : State) :
    (lanesSent s).live = s.live := rfl

@[simp] theorem lanesSent_out (s : State) :
    (lanesSent s).out = s.out := rfl

@[simp] theorem lanesSent_consumed (s : State) :
    (lanesSent s).consumed = s.consumed := rfl

/-! ## extraEventsDone -/

@[simp] theorem extraEventsDone_frame (v : ExtraEvents) (s : State) :
    (extraEventsDone v s).frame = s.frame := rfl

@[simp] theorem extraEventsDone_mode (v : ExtraEvents) (s : State) :
    (extraEventsDone v s).mode = s.mode := rfl

@[simp] theorem extraEventsDone_paused (v : ExtraEvents) (s : State) :
    (extraEventsDone v s).paused = s.paused := rfl

@[simp] theorem extraEventsDone_abs (v : ExtraEvents) (s : State) :
    (extraEventsDone v s).abs = s.abs := rfl

@[simp] theorem extraEventsDone_rel (v : ExtraEvents) (s : State) :
    (extraEventsDone v s).rel = s.rel := rfl

@[simp] theorem extraEventsDone_joy0 (v : ExtraEvents) (s : State) :
    (extraEventsDone v s).joy0 = s.joy0 := rfl

@[simp] theorem extraEventsDone_joy1 (v : ExtraEvents) (s : State) :
    (extraEventsDone v s).joy1 = s.joy1 := rfl

@[simp] theorem extraEventsDone_btn (v : ExtraEvents) (s : State) :
    (extraEventsDone v s).btn = s.btn := rfl

@[simp] theorem extraEventsDone_clock (v : ExtraEvents) (s : State) :
    (extraEventsDone v s).clock = s.clock := rfl

@[simp] theorem extraEventsDone_keys (v : ExtraEvents) (s : State) :
    (extraEventsDone v s).keys = s.keys := rfl

@[simp] theorem extraEventsDone_pad (v : ExtraEvents) (s : State) :
    (extraEventsDone v s).pad = v.last := rfl

@[simp] theorem extraEventsDone_rt (v : ExtraEvents) (s : State) :
    (extraEventsDone v s).rt = s.rt := rfl

@[simp] theorem extraEventsDone_phase (v : ExtraEvents) (s : State) :
    (extraEventsDone v s).phase = s.phase := rfl

@[simp] theorem extraEventsDone_refused (v : ExtraEvents) (s : State) :
    (extraEventsDone v s).refused = s.refused := rfl

@[simp] theorem extraEventsDone_mem (v : ExtraEvents) (s : State) :
    (extraEventsDone v s).mem = s.mem := rfl

@[simp] theorem extraEventsDone_calls (v : ExtraEvents) (s : State) :
    (extraEventsDone v s).calls = s.calls := rfl

@[simp] theorem extraEventsDone_live (v : ExtraEvents) (s : State) :
    (extraEventsDone v s).live = s.live := rfl

@[simp] theorem extraEventsDone_out (v : ExtraEvents) (s : State) :
    (extraEventsDone v s).out = if s.paused then s.out else s.out ++ v.out := rfl

@[simp] theorem extraEventsDone_consumed (v : ExtraEvents) (s : State) :
    (extraEventsDone v s).consumed = s.consumed := rfl

/-! ## readDone -/

@[simp] theorem readDone_frame (e : EntryIndex) (loc : LocalState) (out : List Byte) (s : State) :
    (readDone e loc out s).frame = s.frame := rfl

@[simp] theorem readDone_mode (e : EntryIndex) (loc : LocalState) (out : List Byte) (s : State) :
    (readDone e loc out s).mode = s.mode := rfl

@[simp] theorem readDone_paused (e : EntryIndex) (loc : LocalState) (out : List Byte) (s : State) :
    (readDone e loc out s).paused = s.paused := rfl

@[simp] theorem readDone_abs (e : EntryIndex) (loc : LocalState) (out : List Byte) (s : State) :
    (readDone e loc out s).abs = s.abs := rfl

@[simp] theorem readDone_rel (e : EntryIndex) (loc : LocalState) (out : List Byte) (s : State) :
    (readDone e loc out s).rel = s.rel := rfl

@[simp] theorem readDone_joy0 (e : EntryIndex) (loc : LocalState) (out : List Byte) (s : State) :
    (readDone e loc out s).joy0 = s.joy0 := rfl

@[simp] theorem readDone_joy1 (e : EntryIndex) (loc : LocalState) (out : List Byte) (s : State) :
    (readDone e loc out s).joy1 = s.joy1 := rfl

@[simp] theorem readDone_btn (e : EntryIndex) (loc : LocalState) (out : List Byte) (s : State) :
    (readDone e loc out s).btn = s.btn := rfl

@[simp] theorem readDone_clock (e : EntryIndex) (loc : LocalState) (out : List Byte) (s : State) :
    (readDone e loc out s).clock = s.clock := rfl

@[simp] theorem readDone_keys (e : EntryIndex) (loc : LocalState) (out : List Byte) (s : State) :
    (readDone e loc out s).keys = s.keys := rfl

@[simp] theorem readDone_pad (e : EntryIndex) (loc : LocalState) (out : List Byte) (s : State) :
    (readDone e loc out s).pad = s.pad := rfl

@[simp] theorem readDone_rt (e : EntryIndex) (loc : LocalState) (out : List Byte) (s : State) :
    (readDone e loc out s).rt = s.rt := rfl

@[simp] theorem readDone_phase (e : EntryIndex) (loc : LocalState) (out : List Byte) (s : State) :
    (readDone e loc out s).phase = .executing (.main e loc) := rfl

@[simp] theorem readDone_refused (e : EntryIndex) (loc : LocalState) (out : List Byte) (s : State) :
    (readDone e loc out s).refused = s.refused := rfl

@[simp] theorem readDone_mem (e : EntryIndex) (loc : LocalState) (out : List Byte) (s : State) :
    (readDone e loc out s).mem = s.mem := rfl

@[simp] theorem readDone_calls (e : EntryIndex) (loc : LocalState) (out : List Byte) (s : State) :
    (readDone e loc out s).calls = s.calls := rfl

@[simp] theorem readDone_live (e : EntryIndex) (loc : LocalState) (out : List Byte) (s : State) :
    (readDone e loc out s).live = s.live := rfl

@[simp] theorem readDone_out (e : EntryIndex) (loc : LocalState) (out : List Byte) (s : State) :
    (readDone e loc out s).out = if s.paused then s.out else s.out ++ out := rfl

@[simp] theorem readDone_consumed (e : EntryIndex) (loc : LocalState) (out : List Byte) (s : State) :
    (readDone e loc out s).consumed = s.consumed := rfl

end Sys2Proof.Machine
end

