-- ==== Sys2Proof/Laws/Memory.lean ====
section
/-!
SUPPORT. The host-visible tables as data: every memory operation keeps the canonical form, a write is
read back, and other cells read as before. Cell numbers tell the cells apart.
-/

namespace Sys2Proof.Machine

theorem Memory.wf_nil : Memory.wf [] = true := rfl

theorem Memory.wf_cons {k : Nat} {b : Byte} {m : Memory} :
    Memory.wf ((k, b) :: m) = true ↔
      b ≠ tableInit k ∧ Memory.above k m = true ∧ Memory.wf m = true := by
  simp [Memory.wf, and_assoc]

theorem Memory.above_cons {k k' : Nat} {b : Byte} {m : Memory} :
    Memory.above k ((k', b) :: m) = true ↔ k < k' ∧ Memory.above k m = true := by
  simp [Memory.above]

theorem Memory.above_mono {j k : Nat} (h : j < k) {m : Memory} (hm : Memory.above k m = true) :
    Memory.above j m = true := by
  simp only [Memory.above, List.all_eq_true, decide_eq_true_eq] at hm ⊢
  intro c hc
  exact h.trans (hm c hc)

/-- A cell below every listed one reads as its initial contents. -/
theorem Memory.read_of_above {k : Nat} : ∀ {m : Memory}, Memory.above k m = true →
    m.read k = tableInit k
  | [], _ => rfl
  | (k', b) :: m, h => by
    obtain ⟨hk, hm⟩ := Memory.above_cons.1 h
    simp [Memory.read, Nat.ne_of_gt hk, Memory.read_of_above hm]

theorem Memory.write_above {j k : Nat} {b : Byte} (hj : j < k) : ∀ {m : Memory},
    Memory.above j m = true → Memory.above j (m.write k b) = true
  | [], _ => by
    by_cases h : b = tableInit k <;> simp [Memory.write, Memory.above, h, hj]
  | (k', b') :: m, hm => by
    obtain ⟨hk, hm'⟩ := Memory.above_cons.1 hm
    by_cases h1 : k < k'
    · by_cases h : b = tableInit k <;> simp_all [Memory.write, Memory.above_cons]
    · by_cases h2 : k' = k
      · by_cases h : b = tableInit k <;> simp_all [Memory.write, Memory.above_cons]
      · simp [Memory.write, h1, h2, Memory.above_cons, hk, Memory.write_above hj hm']

/-- A write keeps the canonical form. -/
theorem Memory.write_wf {k : Nat} {b : Byte} : ∀ {m : Memory}, m.wf = true →
    (m.write k b).wf = true
  | [], _ => by
    by_cases h : b = tableInit k <;> simp [Memory.write, Memory.wf, Memory.above, h]
  | (k', b') :: m, hm => by
    obtain ⟨hb, ha, hw⟩ := Memory.wf_cons.1 hm
    by_cases h1 : k < k'
    · by_cases h : b = tableInit k
      · simpa [Memory.write, h1, h] using hm
      · simp [Memory.write, h1, h, Memory.wf_cons, Memory.above_cons, hb, ha, hw,
          Memory.above_mono h1 ha]
    · by_cases h2 : k' = k
      · subst h2
        by_cases h : b = tableInit k' <;> simp [Memory.write, h, Memory.wf_cons, ha, hw]
      · have hlt : k' < k := lt_of_le_of_ne (Nat.le_of_not_lt h1) h2
        simp [Memory.write, h1, h2, Memory.wf_cons, hb, Memory.write_above hlt ha,
          Memory.write_wf hw]

/-- What each cell reads as after a write to a memory in canonical form. -/
theorem Memory.read_write {j k : Nat} {b : Byte} : ∀ {m : Memory}, m.wf = true →
    (m.write k b).read j = if j = k then b else m.read j
  | [], _ => by
    by_cases h : b = tableInit k <;> by_cases hj : j = k
    · subst hj; simp [Memory.write, Memory.read, h]
    · simp [Memory.write, h, hj]
    · subst hj; simp [Memory.write, Memory.read, h]
    · simp [Memory.write, Memory.read, h, hj, Ne.symm hj]
  | (k', b') :: m, hm => by
    obtain ⟨-, ha, hw⟩ := Memory.wf_cons.1 hm
    by_cases h1 : k < k'
    · have hk : Memory.read ((k', b') :: m) k = tableInit k :=
        Memory.read_of_above (Memory.above_cons.2 ⟨h1, Memory.above_mono h1 ha⟩)
      by_cases h : b = tableInit k <;> by_cases hj : j = k
      · rw [hj, if_pos rfl, h, ← hk]; simp [Memory.write, h1, hk]
      · simp [Memory.write, h1, h, hj]
      · subst hj; simp [Memory.write, h1, h, Memory.read]
      · simp [Memory.write, h1, h, Memory.read, hj, Ne.symm hj]
    · by_cases h2 : k' = k
      · subst h2
        have hk : Memory.read m k' = tableInit k' := Memory.read_of_above ha
        by_cases h : b = tableInit k' <;> by_cases hj : j = k'
        · subst hj; simp [Memory.write, h, hk]
        · simp [Memory.write, h, hj, Memory.read, Ne.symm hj]
        · subst hj; simp [Memory.write, h, Memory.read]
        · simp [Memory.write, h, hj, Memory.read, Ne.symm hj]
      · by_cases hj : k' = j
        · subst hj; simp [Memory.write, h1, h2, Memory.read]
        · simp [Memory.write, h1, h2, Memory.read, hj, Memory.read_write hw]

/-- Distinct cells have distinct numbers. -/
theorem TableCell.key_injective {c d : TableCell} (h : c.key = d.key) : c = d := by
  cases c <;> cases d <;> simp only [TableCell.key] at h
  all_goals congr 1 <;> omega

theorem State.memWrite_wf {a : Word16} {b : Byte} {s : State} (h : s.mem.wf = true) :
    (s.memWrite a b).mem.wf = true := by
  simp only [State.memWrite]
  split
  · exact Memory.write_wf h
  · exact h

theorem State.tableWrite_wf {c : TableCell} {b : Byte} {s : State} (h : s.mem.wf = true) :
    (s.tableWrite c b).mem.wf = true := Memory.write_wf h

theorem engineReset_mem_wf {cold : Bool} {s : State} (h : s.mem.wf = true) :
    (engineReset cold s).mem.wf = true := h

theorem reset_mem_wf : State.reset.mem.wf = true := rfl

/-- An unmapped address reads as zero (20_memory.md R71). -/
theorem State.memRead_unmapped {s : State} {a : Word16} (h : memMap a = none) :
    s.memRead a = 0x00 := by simp [State.memRead, h]

/-- A mapped address reads as its cell (20_memory.md R71). -/
theorem State.memRead_mapped {s : State} {a : Word16} {c : TableCell} (h : memMap a = some c) :
    s.memRead a = s.mem.read c.key := by simp [State.memRead, h]

end Sys2Proof.Machine
end

