-- ==== Sys2Proof/Laws/Ops.lean ====
section
/-!
SUPPORT. What each shared operation can do, said once: `<operation>_cases` or `<operation>_eq` lists
every possible answer, so that a proof need not unfold the operation.
-/

namespace Sys2Proof.Machine

/-! ## Bytes and coordinates -/

theorem u16_hiByte_loByte (v : Word16) : u16 (hiByte v) (loByte v) = v := by
  apply BitVec.eq_of_getLsbD_eq
  intro i hi
  simp only [u16, hiByte, loByte, BitVec.getLsbD_append, BitVec.getLsbD_extractLsb']
  by_cases h : i < 8
  · simp [h]
  · have h1 : i - 8 < 8 := by omega
    have h2 : 8 + (i - 8) = i := by omega
    simp [h, h1, h2]

theorem hiByte_u16 (h l : Byte) : hiByte (u16 h l) = h := by
  apply BitVec.eq_of_getLsbD_eq
  intro i hi
  simp only [u16, hiByte, BitVec.getLsbD_extractLsb', BitVec.getLsbD_append]
  simp [hi]

theorem loByte_u16 (h l : Byte) : loByte (u16 h l) = l := by
  apply BitVec.eq_of_getLsbD_eq
  intro i hi
  simp only [u16, loByte, BitVec.getLsbD_extractLsb', BitVec.getLsbD_append]
  simp [hi]

/-- A clamped coordinate is the exact sum clamped: nothing wraps. -/
theorem clampCoord_toNat (v : Int) (hi : Word16) :
    ((clampCoord v hi).toNat : Int) = clamp v 0 hi.toNat := by
  have h := hi.isLt
  simp only [clampCoord, clamp, BitVec.toNat_ofNat]
  have h0 : 0 ≤ min (max v 0) (hi.toNat : Int) := by omega
  have h1 : min (max v 0) (hi.toNat : Int) ≤ hi.toNat := by omega
  rw [Nat.mod_eq_of_lt (by omega)]
  omega

theorem clampCoord_le (v : Int) (hi : Word16) : (clampCoord v hi).toNat ≤ hi.toNat := by
  have h := clampCoord_toNat v hi
  simp only [clamp] at h
  omega

theorem minCoord_le (a b : Word16) : (minCoord a b).toNat ≤ b.toNat := by
  simp only [minCoord]
  split <;> omega

theorem one_le_max1 (v : Byte) : 1 ≤ (max1 v).toNat := by
  simp only [max1]
  split
  · decide
  · rename_i h
    have : v.toNat ≠ 0 := fun h0 => h (BitVec.eq_of_toNat_eq (by simpa using h0))
    omega

theorem isBcd_storeBcd {old : Byte} (h : isBcd old = true) (new : Byte) :
    isBcd (storeBcd old new) = true := by
  simp only [storeBcd]
  split <;> assumption

/-- A sample has only lane bits (00_scope.md R19). -/
theorem joySample_mask (r : Word16) : joySample r &&& ~~~joyMask = 0 := by
  simp only [joySample]
  apply BitVec.eq_of_getLsbD_eq
  intro i hi
  simp [hi]

/-! ## The shared operations -/

theorem emitR_out_paused {bs : List Byte} {s : State} (h : s.paused = true) :
    (State.emitR bs s).out = s.out := by simp [h]

theorem emitR_out_open {bs : List Byte} {s : State} (h : s.paused = false) :
    (State.emitR bs s).out = s.out ++ bs := by simp [h]

/-- Two emissions through the gate are one. -/
theorem emitR_emitR (as bs : List Byte) (s : State) :
    State.emitR bs (State.emitR as s) = State.emitR (as ++ bs) s := by
  simp only [State.emitR]
  split <;> simp

theorem dualDisableCheck_cases (s : State) :
    (dualDisableCheck s = s ∧
      ¬ (s.rt.ptrDisabled = true ∧ s.rt.joyDisabled = true ∧ s.rt.inWindow = true)) ∨
    (dualDisableCheck s = { s with mode := ⟨.relative, .auto⟩, rt := { s.rt with both := true } } ∧
      s.rt.ptrDisabled = true ∧ s.rt.joyDisabled = true ∧ s.rt.inWindow = true) := by
  simp only [dualDisableCheck]
  split
  · rename_i h
    simp only [Bool.and_eq_true] at h
    exact .inr ⟨rfl, h.1.1, h.1.2, h.2⟩
  · rename_i h
    simp only [Bool.and_eq_true] at h
    exact .inl ⟨rfl, fun ⟨a, b, c⟩ => h ⟨⟨a, b⟩, c⟩⟩

theorem joyAutoQuirk_cases (s : State) :
    (joyAutoQuirk s = s ∧ ¬ (s.rt.inWindow = true ∧ s.rt.ptrChangedInWindow = true)) ∨
    (joyAutoQuirk s =
        { s with mode := { s.mode with pointer := .relative }, rt := { s.rt with both := true } } ∧
      s.rt.inWindow = true ∧ s.rt.ptrChangedInWindow = true) := by
  simp only [joyAutoQuirk]
  split
  · rename_i h
    exact .inr ⟨rfl, by simpa using h⟩
  · rename_i h
    exact .inl ⟨rfl, by simpa using h⟩

theorem refuseNoHandler_ne_next (op : Byte) (s t : State) : refuseNoHandler op s ≠ .next t := by
  simp [refuseNoHandler]

theorem refuseCustom_ne_next (e : EntryIndex) (c : Nat) (s t : State) :
    refuseCustom e c s ≠ .next t := by
  simp [refuseCustom]

theorem refuseExtra_ne_next (c : Nat) (s t : State) : refuseExtra c s ≠ .next t := by
  simp [refuseExtra]

@[simp] theorem andThen_next (s : State) (f : State → Outcome) : andThen (.next s) f = f s := rfl

@[simp] theorem andThen_refused (r : Refusal) (f : State → Outcome) :
    andThen (.refused r) f = .refused r := rfl

/-- A sequence answers a next state only through a next state of its first part. -/
theorem andThen_eq_next {o : Outcome} {f : State → Outcome} {t : State} :
    andThen o f = .next t ↔ ∃ u, o = .next u ∧ f u = .next t := by
  cases o <;> simp [andThen]

/-! ## The custom-program layer -/

theorem loadComplete_cases (crc : Word32) :
    loadComplete crc = .standard ∨ ∃ e, loadComplete crc = .bootMatched e := by
  simp only [loadComplete]
  split
  · exact .inr ⟨_, rfl⟩
  · exact .inl rfl

theorem loadPhase_cases (rem : Nat) (dest : Word16) (crc : Word32) :
    (rem = 0 ∧ loadPhase rem dest crc = loadComplete crc) ∨
    (0 < rem ∧ loadPhase rem dest crc = .loading rem dest crc) := by
  simp only [loadPhase]
  split
  · exact .inl ⟨‹_›, rfl⟩
  · exact .inr ⟨by omega, rfl⟩

/-- If a read handler call answers a next state, it changed nothing or only the program's own state
and the output (R266, R269). -/
theorem runRead_next {ev : ReadEvent} {s t : State} (h : runRead ev s = .next t) :
    t = s ∨ ∃ e loc loc' out, s.phase = .executing (.main e loc) ∧ t = readDone e loc' out s := by
  simp only [runRead] at h
  split at h
  · rename_i e loc hp
    simp only [mainRead] at h
    split at h
    · split at h
      · cases h; exact .inr ⟨e, loc, _, _, hp, rfl⟩
      · simp [refuseCustom] at h
    · cases h; exact .inl rfl
  · cases h; exact .inl rfl

/-- If a byte in phase Executing answers a next state, it was a boot byte or the write handler's
answer (R263). -/
theorem writeHandlerByte_next {st : ExecStage} {b : Byte} {s t : State}
    (h : writeHandlerByte st b s = .next t) :
    (∃ crc n, st = .boot crc n ∧ t = bootByteStep crc n b s) ∨
    (∃ e loc loc' out exit, st = .main e loc ∧
      (registry e).write loc b s.view s.memRead = .done loc' out exit ∧
      t = mainWriteDone e loc' out exit s) := by
  cases st with
  | boot crc n => cases h; exact .inl ⟨crc, n, rfl, rfl⟩
  | main e loc =>
    simp only [writeHandlerByte, mainWrite] at h
    split at h
    · rename_i hw
      cases h; exact .inr ⟨e, loc, _, _, _, rfl, hw, rfl⟩
    · simp [refuseCustom] at h

/-! ## Tick -/

/-- What step 10's other events can do under a definition: its value, or its refusal (R301, R342). -/
theorem step10ExtraEvents_cases (d : ExtraDefinition) (s : State) :
    (∃ v, d s.view s.phase s.mem s.live = .done v ∧
      step10ExtraEvents d s = .next (extraEventsDone v s)) ∨
    (∃ code, d s.view s.phase s.mem s.live = .refuse code ∧
      step10ExtraEvents d s = refuseExtra code s) := by
  cases h : d s.view s.phase s.mem s.live with
  | done v => exact .inl ⟨v, rfl, by simp [step10ExtraEvents, h]⟩
  | refuse code => exact .inr ⟨code, rfl, by simp [step10ExtraEvents, h]⟩

/-- Step 10's other events as the machine runs them: R18's function has a value everywhere. -/
@[simp] theorem step10ExtraEvents_extraDefinition (s : State) :
    step10ExtraEvents extraDefinition s =
      .next (extraEventsDone (extraEventsOf s.view s.phase s.mem s.live) s) := rfl

/-- Steps 2 to 10 as the machine runs them answer a next state (R280, R290). -/
theorem tickBody_extraDefinition (s : State) :
    tickBody extraDefinition s = .next (if s.mode.joystick = .monitoring then tickReports s
      else
        let u := tickReports s
        extraEventsDone (extraEventsOf u.view u.phase u.mem u.live) u) := by
  simp only [tickBody]
  split <;> rfl

/-- If a tick answers a next state, it was a tick of the countdown, or steps 2 to 10 and then the
read handler answered one (R280). -/
theorem tick_next {s t : State} (h : tick s = .next t) :
    (0 < s.rt.count ∧ t = step1Countdown { s with consumed := consumedZero }) ∨
    (s.rt.count = 0 ∧ ∃ u, tickBody extraDefinition { s with consumed := consumedZero } = .next u ∧
      runRead (.tick u.live) u = .next t) := by
  simp only [tick, tickWith] at h
  split at h
  · cases h; exact .inl ⟨‹_›, rfl⟩
  · obtain ⟨u, hu, ht⟩ := andThen_eq_next.1 h
    exact .inr ⟨by omega, u, hu, ht⟩

/-- If steps 2 to 10 answer a next state, the mode was Monitoring, or the definition of
`P_EXTRA_EVENTS` had a value (R280, R290). -/
theorem tickBody_next {d : ExtraDefinition} {s u : State} (h : tickBody d s = .next u) :
    (s.mode.joystick = .monitoring ∧ u = tickReports s) ∨
    (s.mode.joystick ≠ .monitoring ∧ ∃ v, u = extraEventsDone v (tickReports s)) := by
  simp only [tickBody] at h
  split at h
  · cases h; exact .inl ⟨‹_›, rfl⟩
  · rename_i hm
    obtain ⟨v, -, he⟩ | ⟨c, -, he⟩ := step10ExtraEvents_cases d (tickReports s)
    · rw [he] at h; cases h; exact .inr ⟨hm, v, rfl⟩
    · rw [he] at h; exact absurd h (refuseExtra_ne_next _ _ _)

/-! ## Framer, calls and step -/

theorem dispatch_next {i : Instr} {s t : State} (h : dispatch i s = .next t) :
    ∃ u, exec i { s with paused := false } = .next u ∧ t = { u with frame := [] } := by
  simp only [dispatch, clearFrame] at h
  split at h
  · rename_i u hu
    cases h; exact ⟨u, hu, rfl⟩
  · cases h
  · cases h

/-- What a byte can do to the framer (40_framer.md R132). -/
theorem frameByte_next {b : Byte} {s t : State} (h : frameByte b s = .next t) :
    (∃ i, decode (appendByte b s.frame) = .command i [] ∧
      dispatch i { s with frame := appendByte b s.frame } = .next t) ∨
    (∃ op, decode (appendByte b s.frame) = .unknownOpcode op ∧ t = { s with frame := [] }) ∨
    ((∀ i, decode (appendByte b s.frame) ≠ .command i []) ∧
      (∀ op, decode (appendByte b s.frame) ≠ .unknownOpcode op) ∧
      t = { s with frame := appendByte b s.frame }) := by
  simp only [frameByte] at h
  split at h
  · exact .inl ⟨_, ‹_›, h⟩
  · cases h; exact .inr (.inl ⟨_, ‹_›, rfl⟩)
  · rename_i h1 h2
    cases h
    exact .inr (.inr ⟨h1, h2, rfl⟩)

theorem submit_of_framing {b : Byte} {s : State} (h : Framing s.phase) :
    submit b s = frameByte b s := by
  obtain h | ⟨e, h⟩ := h <;> simp [submit, h]

/-- Where a submitted byte goes (40_framer.md R130). -/
theorem submit_cases (b : Byte) (s : State) :
    (Framing s.phase ∧ submit b s = frameByte b s) ∨
    (∃ rem dest crc, s.phase = .loading rem dest crc ∧
      submit b s = .next (loaderByte rem dest crc b s)) ∨
    (∃ st, s.phase = .executing st ∧ submit b s = writeHandlerByte st b s) := by
  cases h : s.phase with
  | standard => exact .inl ⟨.inl rfl, by simp [submit, h]⟩
  | bootMatched e => exact .inl ⟨.inr ⟨e, rfl⟩, by simp [submit, h]⟩
  | loading rem dest crc => exact .inr (.inl ⟨rem, dest, crc, rfl, by simp [submit, h]⟩)
  | executing st => exact .inr (.inr ⟨st, rfl, by simp [submit, h]⟩)

theorem step_of_calls {s : State} {c : Call} {rest : List Call} (h : s.calls = c :: rest) :
    step s = runCall c { s with calls := rest } := by
  simp [step, runNext, h]

/-- A step answers a next state by making the host's next call, or by staying as it is when there
is none. -/
theorem step_next {s t : State} (h : step s = .next t) :
    (s.calls = [] ∧ t = s) ∨
    (∃ c rest, s.calls = c :: rest ∧ runCall c { s with calls := rest } = .next t) := by
  simp only [step, runNext] at h
  split at h
  · cases h; exact .inl ⟨‹_›, rfl⟩
  · exact .inr ⟨_, _, ‹_›, h⟩

end Sys2Proof.Machine
end

