-- ==== Sys2Proof/Laws/PerInstr.lean ====
section
/-!
SUPPORT. The per-instruction family FrameLength: the frame that the encoder writes for a command has
the total length that the command table gives its first byte, and it fits the command buffer
(30_encoding.md R90, R93, R100).
-/

namespace Sys2Proof.Laws.FrameLength

/-- The frame of `i` is as long as the table says of its opcode, and `i` is well-formed. -/
def Statement (i : Instr) : Prop :=
  (encode i).length = i.totalLength ∧
  (lookup ((encode i).headD 0)).map (fun e => e.totalLength) = some i.totalLength ∧
  i.wellFormed = true

theorem reset (m : Byte) : Statement (.reset m) := ⟨rfl, rfl, rfl⟩

theorem setAction (a : Byte) : Statement (.setAction a) := ⟨rfl, rfl, rfl⟩

theorem setRel : Statement .setRel := ⟨rfl, rfl, rfl⟩

theorem setAbs (mx my : Word16) : Statement (.setAbs mx my) := ⟨rfl, rfl, rfl⟩

theorem setKeycode (dx dy : Byte) : Statement (.setKeycode dx dy) := ⟨rfl, rfl, rfl⟩

theorem setThresh (xt yt : Byte) : Statement (.setThresh xt yt) := ⟨rfl, rfl, rfl⟩

theorem setScale (xs ys : Byte) : Statement (.setScale xs ys) := ⟨rfl, rfl, rfl⟩

theorem interrogateAbs : Statement .interrogateAbs := ⟨rfl, rfl, rfl⟩

theorem loadPos (fl : Byte) (x y : Word16) : Statement (.loadPos fl x y) := ⟨rfl, rfl, rfl⟩

theorem yBottom : Statement .yBottom := ⟨rfl, rfl, rfl⟩

theorem yTop : Statement .yTop := ⟨rfl, rfl, rfl⟩

theorem resume : Statement .resume := ⟨rfl, rfl, rfl⟩

theorem disablePtr : Statement .disablePtr := ⟨rfl, rfl, rfl⟩

theorem pause : Statement .pause := ⟨rfl, rfl, rfl⟩

theorem joyAuto : Statement .joyAuto := ⟨rfl, rfl, rfl⟩

theorem joyQmode : Statement .joyQmode := ⟨rfl, rfl, rfl⟩

theorem joyQuery : Statement .joyQuery := ⟨rfl, rfl, rfl⟩

theorem joyMonitor (r : Byte) : Statement (.joyMonitor r) := ⟨rfl, rfl, rfl⟩

theorem fireMonitor : Statement .fireMonitor := ⟨rfl, rfl, rfl⟩

theorem joyKeycode (a b c d e f : Byte) : Statement (.joyKeycode a b c d e f) := ⟨rfl, rfl, rfl⟩

theorem disableJoy : Statement .disableJoy := ⟨rfl, rfl, rfl⟩

theorem setClock (a b c d e f : Byte) : Statement (.setClock a b c d e f) := ⟨rfl, rfl, rfl⟩

theorem readClock : Statement .readClock := ⟨rfl, rfl, rfl⟩

theorem memLoad (a : Word16) (n : Byte) : Statement (.memLoad a n) := ⟨rfl, rfl, rfl⟩

theorem memRead (a : Word16) : Statement (.memRead a) := ⟨rfl, rfl, rfl⟩

theorem execute (a : Word16) : Statement (.execute a) := ⟨rfl, rfl, rfl⟩

theorem qAction : Statement .qAction := ⟨rfl, rfl, rfl⟩

theorem qPtrmode88 : Statement .qPtrmode88 := ⟨rfl, rfl, rfl⟩

theorem qPtrmode89 : Statement .qPtrmode89 := ⟨rfl, rfl, rfl⟩

theorem qPtrmode8A : Statement .qPtrmode8A := ⟨rfl, rfl, rfl⟩

theorem qThresh : Statement .qThresh := ⟨rfl, rfl, rfl⟩

theorem qScale : Statement .qScale := ⟨rfl, rfl, rfl⟩

theorem qYaxis8F : Statement .qYaxis8F := ⟨rfl, rfl, rfl⟩

theorem qYaxis90 : Statement .qYaxis90 := ⟨rfl, rfl, rfl⟩

theorem qPtravail : Statement .qPtravail := ⟨rfl, rfl, rfl⟩

theorem qJoymode94 : Statement .qJoymode94 := ⟨rfl, rfl, rfl⟩

theorem qJoymode95 : Statement .qJoymode95 := ⟨rfl, rfl, rfl⟩

theorem qJoymode99 : Statement .qJoymode99 := ⟨rfl, rfl, rfl⟩

theorem qJoyavail : Statement .qJoyavail := ⟨rfl, rfl, rfl⟩

end Sys2Proof.Laws.FrameLength
end

