-- ==== Sys2Proof/Tests/Slice0.lean ====
section
/-!
SUPPORT. Tests: what the well-formedness checks refuse, the decoding of every command from bytes written
out by hand from 30_encoding.md R93 and R100, one-step vectors of 95_test_vectors.md, and for every
statement with hypotheses a concrete state and operands that meet them (`witness_<statement>`).
-/

open Sys2Proof Sys2Proof.Machine

namespace Sys2Proof.Tests

/-! ## Well-formedness -/

theorem test_table_wellformed : tableWellFormed cmdTable = true := by decide

theorem test_table_has_39_rows : cmdTable.length = 39 := by decide

/-- R9: a total length of 0 is refused. -/
theorem test_table_length_0_refused :
    tableWellFormed [⟨0x07, 0, formatF1 .setRel⟩] = false := by decide

/-- R9: a total length above `P_FRAME_CAP` is refused. -/
theorem test_table_length_9_refused :
    tableWellFormed [⟨0x07, 9, formatF1 .setRel⟩] = false := by decide

/-- R9: a repeated opcode is refused. -/
theorem test_table_duplicate_refused :
    tableWellFormed [⟨0x08, 1, formatF1 .setRel⟩, ⟨0x08, 1, formatF1 .yTop⟩] = false := by decide

/-- R61 item 1: nine bytes are over the buffer's capacity. -/
theorem test_frame_over_capacity_refused :
    frameWellFormed [⟨0x1B, 20, formatF1 .setRel⟩] (List.replicate 9 0x1B) = false := by decide

/-- R61 item 1: an unknown first byte does not wait in the buffer. -/
theorem test_frame_unknown_refused : frameWellFormed cmdTable [0x00] = false := by decide

/-- R61 item 1: a complete frame does not wait in the buffer. -/
theorem test_frame_complete_refused : frameWellFormed cmdTable [0x0B, 0x05, 0x07] = false := by decide

theorem test_frame_partial_accepted : frameWellFormed cmdTable [0x0B, 0x05] = true := by decide

/-- Every command is well-formed: an instruction with a parameter byte is no longer than 7 bytes. -/
theorem test_instr_wellformed : (Instr.setClock 0 0 0 0 0 0).wellFormed = true := by decide

/-! ## Decoding: every row of the table, its bytes written out -/

theorem test_decode_reset : decode [0x80, 0x01] = .command (.reset 0x01) [] := by decide
theorem test_decode_set_action : decode [0x07, 0x04] = .command (.setAction 0x04) [] := by decide
theorem test_decode_set_rel : decode [0x08] = .command .setRel [] := by decide
theorem test_decode_set_abs :
    decode [0x09, 0x02, 0x7F, 0x01, 0x8F] = .command (.setAbs 639 399) [] := by decide
theorem test_decode_set_keycode : decode [0x0A, 0x0A, 0x05] = .command (.setKeycode 10 5) [] := by
  decide
theorem test_decode_set_thresh : decode [0x0B, 0x05, 0x07] = .command (.setThresh 5 7) [] := by decide
theorem test_decode_set_scale : decode [0x0C, 0x02, 0x05] = .command (.setScale 2 5) [] := by decide
theorem test_decode_interrogate_abs : decode [0x0D] = .command .interrogateAbs [] := by decide
theorem test_decode_load_pos :
    decode [0x0E, 0x00, 0x03, 0xE8, 0x00, 0xC8] = .command (.loadPos 0 1000 200) [] := by decide
theorem test_decode_y_bottom : decode [0x0F] = .command .yBottom [] := by decide
theorem test_decode_y_top : decode [0x10] = .command .yTop [] := by decide
theorem test_decode_resume : decode [0x11] = .command .resume [] := by decide
theorem test_decode_disable_ptr : decode [0x12] = .command .disablePtr [] := by decide
theorem test_decode_pause : decode [0x13] = .command .pause [] := by decide
theorem test_decode_joy_auto : decode [0x14] = .command .joyAuto [] := by decide
theorem test_decode_joy_qmode : decode [0x15] = .command .joyQmode [] := by decide
theorem test_decode_joy_query : decode [0x16] = .command .joyQuery [] := by decide
theorem test_decode_joy_monitor : decode [0x17, 0x02] = .command (.joyMonitor 2) [] := by decide
theorem test_decode_fire_monitor : decode [0x18] = .command .fireMonitor [] := by decide
theorem test_decode_joy_keycode :
    decode [0x19, 1, 2, 3, 4, 5, 6] = .command (.joyKeycode 1 2 3 4 5 6) [] := by decide
theorem test_decode_disable_joy : decode [0x1A] = .command .disableJoy [] := by decide
theorem test_decode_set_clock : decode [0x1B, 0x24, 0x01, 0x31, 0x23, 0x59, 0x58] =
    .command (.setClock 0x24 0x01 0x31 0x23 0x59 0x58) [] := by decide
theorem test_decode_read_clock : decode [0x1C] = .command .readClock [] := by decide
theorem test_decode_mem_load :
    decode [0x20, 0x10, 0x00, 0x03] = .command (.memLoad 0x1000 3) [] := by decide
theorem test_decode_mem_read : decode [0x21, 0x1F, 0xFE] = .command (.memRead 0x1FFE) [] := by decide
theorem test_decode_execute : decode [0x22, 0x0B, 0x00] = .command (.execute 0x0B00) [] := by decide
theorem test_decode_q_action : decode [0x87] = .command .qAction [] := by decide
theorem test_decode_q_ptrmode_88 : decode [0x88] = .command .qPtrmode88 [] := by decide
theorem test_decode_q_ptrmode_89 : decode [0x89] = .command .qPtrmode89 [] := by decide
theorem test_decode_q_ptrmode_8A : decode [0x8A] = .command .qPtrmode8A [] := by decide
theorem test_decode_q_thresh : decode [0x8B] = .command .qThresh [] := by decide
theorem test_decode_q_scale : decode [0x8C] = .command .qScale [] := by decide
theorem test_decode_q_yaxis_8F : decode [0x8F] = .command .qYaxis8F [] := by decide
theorem test_decode_q_yaxis_90 : decode [0x90] = .command .qYaxis90 [] := by decide
theorem test_decode_q_ptravail : decode [0x92] = .command .qPtravail [] := by decide
theorem test_decode_q_joymode_94 : decode [0x94] = .command .qJoymode94 [] := by decide
theorem test_decode_q_joymode_95 : decode [0x95] = .command .qJoymode95 [] := by decide
theorem test_decode_q_joymode_99 : decode [0x99] = .command .qJoymode99 [] := by decide
theorem test_decode_q_joyavail : decode [0x9A] = .command .qJoyavail [] := by decide

/-- R102: a byte of no row, alone and with bytes after it. -/
theorem test_decode_unknown :
    decode [0x00] = .unknownOpcode 0x00 ∧ decode [0x23, 0x01] = .unknownOpcode 0x23 := by decide

/-- 40_framer.md R134: a frame that is not complete. -/
theorem test_decode_incomplete : decode [0x0B, 0x05] = .incomplete 3 := by decide

/-- V-FR-3: the third byte completes SET_THRESH, even when it is RESET's opcode. -/
theorem test_decode_takes_parameters :
    decode [0x0B, 0x05, 0x80, 0x01] = .command (.setThresh 0x05 0x80) [0x01] := by decide

/-- A word of the opcode table: byte 0 in bits 7..0, the operand bytes zero. -/
theorem test_table_word : decodeTableWord 8 0x09 = some (.setAbs 0 0) ∧
    decodeTableWord 16 0x0180 = some (.reset 0x01) ∧ decodeTableWord 8 0x23 = none := by decide

/-! ## One step on a small state (95_test_vectors.md, Parts 1 and 2) -/

/-- "S0" of 95_test_vectors.md: the state after boot. -/
def s0 : State := { State.reset with rt := ⟨0, false, false, false, false, false⟩ }

/-- `s` with the host about to complete this frame. -/
def given (s : State) (bs : List Byte) : State := placeFrame bs s

/-- `s` with the host about to make this call. -/
def calling (s : State) (c : Call) : State := { s with calls := [c] }

/-- One field of the next state of a step, if the step answers one. -/
def after {α : Type} (s : State) (f : State → α) : Option α :=
  match step s with
  | .next t => some (f t)
  | _ => none

/-- V-PT-1. -/
theorem test_set_action : after (given s0 [0x07, 0x04]) (·.rel.action) = some 0x04 := by decide

/-- V-PT-2: pointer Off, then SET_REL. -/
theorem test_set_rel :
    after (given { s0 with mode := ⟨.off, .auto⟩ } [0x08]) (·.mode) = some ⟨.relative, .auto⟩ := by
  decide

/-- V-PT-3. -/
theorem test_set_abs :
    after (given { s0 with abs := ⟨700, 100, 1000, 399, 0x0A⟩ } [0x09, 0x02, 0x7F, 0x01, 0x8F])
      (fun t => (t.abs, t.mode)) = some (⟨639, 100, 639, 399, 0x0A⟩, ⟨.absolute, .auto⟩) := by decide

/-- V-PT-4 without its tick. -/
theorem test_set_keycode : after (given s0 [0x0A, 0x0A, 0x0B])
    (fun t => (t.mode.pointer, t.rel.keyDx, t.rel.keyDy)) = some (.cursorKeys, 0x0A, 0x0B) := by
  decide

/-- V-PT-6: a threshold of 0 is stored as 1. -/
theorem test_set_thresh : after (given s0 [0x0B, 0x00, 0x07]) (fun t => (t.rel.xThr, t.rel.yThr)) =
    some (0x01, 0x07) := by decide

/-- V-PT-7 without its tick. -/
theorem test_set_scale : after (given s0 [0x0C, 0x02, 0x05])
    (fun t => (t.rel.xScale, t.rel.yScale)) = some (0x02, 0x05) := by decide

/-- V-PT-13, its command: left down before, now right down. -/
theorem test_interrogate_abs :
    after (given { s0 with abs := ⟨100, 50, 319, 199, 0x06⟩,
                           btn := ⟨⟨false, false⟩, ⟨true, false⟩, false, true⟩ } [0x0D])
      (fun t => (t.out, t.abs.prevButtons)) =
    some ([0xF7, 0x09, 0x00, 0x64, 0x00, 0x32], 0x09) := by decide

/-- V-PT-8. -/
theorem test_load_pos :
    after (given { s0 with abs := ⟨0, 0, 639, 399, 0x0A⟩ } [0x0E, 0x00, 0x03, 0xE8, 0x00, 0xC8])
      (fun t => (t.abs.x, t.abs.y)) = some (639, 200) := by decide

/-- V-PT-9, V-PT-10 without their ticks. -/
theorem test_y_axis : after (given s0 [0x0F]) (·.rel.yAxis.sign) = some (-1) ∧
    after (given { s0 with rel := { s0.rel with yAxis := .bottom } } [0x10]) (·.rel.yAxis.sign) =
      some 1 := by decide

/-- V-SYS-6, V-WIN-4 and V-SYS-5: PAUSE in the window and after it, RESUME. -/
theorem test_pause_resume : after (given s0 [0x13]) (·.paused) = some true ∧
    after (given State.reset [0x13]) (·.paused) = some false ∧
    after (given { s0 with paused := true } [0x11]) (·.paused) = some false := by decide

/-- V-WIN-1, V-WIN-2, the second command of each. -/
theorem test_disable_joy :
    after (given { State.reset with mode := ⟨.off, .auto⟩,
                                    rt := ⟨3, true, true, false, true, false⟩ } [0x1A])
      (fun t => (t.mode, t.rt.both)) = some (⟨.relative, .auto⟩, true) ∧
    after (given { s0 with mode := ⟨.off, .auto⟩, rt := ⟨0, false, true, false, false, false⟩ }
        [0x1A]) (fun t => (t.mode, t.rt.both)) = some (⟨.off, .off⟩, false) := by decide

/-- The order of X5 turned round, and V-PT-16 without its tick. -/
theorem test_disable_ptr :
    after (given { State.reset with mode := ⟨.relative, .off⟩,
                                    rt := ⟨3, true, false, true, false, false⟩ } [0x12])
      (fun t => (t.mode, t.rt.both)) = some (⟨.relative, .auto⟩, true) ∧
    after (given s0 [0x12]) (fun t => (t.mode, t.rt.ptrDisabled)) = some (⟨.off, .auto⟩, true) := by
  decide

/-- V-WIN-3, its second command. -/
theorem test_joy_auto_in_window :
    after (given { State.reset with mode := ⟨.absolute, .off⟩,
                                    rt := ⟨3, true, false, false, true, false⟩ } [0x14])
      (fun t => (t.mode, t.rt.both)) = some (⟨.relative, .auto⟩, true) := by decide

/-- V-JOY-4 without its tick. -/
theorem test_joy_monitor :
    after (given s0 [0x17, 0x02]) (·.mode.joystick) = some .monitoring := by decide

/-- V-JOY-9. -/
theorem test_joy_refused : after (given s0 [0x15]) (·.out) = none ∧
    after (given s0 [0x16]) (·.out) = none ∧ after (given s0 [0x18]) (·.out) = none ∧
    after (given s0 [0x19, 1, 1, 1, 1, 1, 1]) (·.out) = none := by decide

/-- V-SYS-1: the third, first, fourth and fifth byte stored, the two that are not BCD dropped. -/
theorem test_set_clock : after (given s0 [0x1B, 0x24, 0x1A, 0x05, 0x23, 0x59, 0x5F]) (·.clock.bytes) =
    some [0x24, 0x00, 0x05, 0x23, 0x59, 0x00] := by decide

/-- V-SYS-2, its second command. -/
theorem test_read_clock :
    after (given { s0 with clock := ⟨0x24, 0x01, 0x31, 0x23, 0x59, 0x58⟩ } [0x1C]) (·.out) =
      some [0xFC, 0x24, 0x01, 0x31, 0x23, 0x59, 0x58] := by decide

/-- V-FR-4 and V-FR-6: RESET with the wrong and with the right second byte. -/
theorem test_reset :
    after (given { s0 with paused := true } [0x80, 0x00]) (fun t => (t.paused, t.rt.count)) =
      some (false, 0) ∧
    after (given { s0 with rel := { s0.rel with xThr := 4 }, clock := ⟨1, 2, 3, 4, 5, 6⟩ }
        [0x80, 0x01]) (fun t => (t.rel.xThr, t.rt.inWindow, t.clock.year)) = some (1, true, 1) := by
  decide

/-- V-SYS-11 and step 5 of Program 4. -/
theorem test_execute : after (given s0 [0x22, 0x0B, 0x00]) (·.phase) = some .standard ∧
    after (given { s0 with phase := .bootMatched 0 } [0x22, 0x00, 0x00]) (·.phase) =
      some (.executing (.boot 0xFFFFFFFF 0)) := by decide

/-- Step 2 of Program 4. -/
theorem test_mem_load : after (given s0 [0x20, 0x10, 0x00, 0x03]) (·.phase) =
    some (.loading 3 0x1000 0xFFFFFFFF) := by decide

/-- V-SYS-8, V-SYS-9, the packet's head and length: the bytes read are those of open parameters. -/
theorem test_mem_read :
    after (given s0 [0x21, 0xFF, 0xFD]) (fun t => (t.out.take 2, t.out.length)) =
      some ([0xF6, 0x20], 8) := by decide

/-- The state of the second table of 95_test_vectors.md §2.13. -/
def s1 : State := { s0 with
  mode := ⟨.absolute, .monitoring⟩
  abs  := ⟨0, 0, 639, 399, 0x0A⟩
  rel  := ⟨3, 4, 2, 5, 3, 2, .bottom, 0x04, 0, 0⟩ }

/-- §2.13, `87`. -/
theorem test_q_action : after (given s1 [0x87]) (·.out) =
    some [0xF6, 0x07, 0x04, 0, 0, 0, 0, 0] := by decide

/-- §2.13, `88`, `89`, `8A` in pointer modes Absolute, Relative and CursorKeys. -/
theorem test_q_ptrmode :
    after (given s1 [0x88]) (·.out) = some [0xF6, 0x09, 0x02, 0x7F, 0x01, 0x8F, 0, 0] ∧
    after (given s0 [0x89]) (·.out) = some [0xF6, 0x08, 0, 0, 0, 0, 0, 0] ∧
    after (given { s1 with mode := ⟨.cursorKeys, .off⟩ } [0x8A]) (·.out) =
      some [0xF6, 0x0A, 0x03, 0x02, 0, 0, 0, 0] := by decide

/-- §2.13, `8B` and `8C`. -/
theorem test_q_thresh_scale :
    after (given s1 [0x8B]) (·.out) = some [0xF6, 0x0B, 0x03, 0x04, 0, 0, 0, 0] ∧
    after (given s1 [0x8C]) (·.out) = some [0xF6, 0x0C, 0x02, 0x05, 0, 0, 0, 0] := by decide

/-- §2.13, `8F` and `90`. -/
theorem test_q_yaxis : after (given s1 [0x8F]) (·.out) = some [0xF6, 0x0F, 0, 0, 0, 0, 0, 0] ∧
    after (given s0 [0x90]) (·.out) = some [0xF6, 0x10, 0, 0, 0, 0, 0, 0] := by decide

/-- §2.13, `92` and `9A`, both devices on and both off. -/
theorem test_q_avail : after (given s1 [0x92]) (·.out) = some [0xF6, 0x00, 0, 0, 0, 0, 0, 0] ∧
    after (given { s1 with mode := ⟨.off, .off⟩ } [0x92]) (·.out) =
      some [0xF6, 0x12, 0, 0, 0, 0, 0, 0] ∧
    after (given { s1 with mode := ⟨.off, .off⟩ } [0x9A]) (·.out) =
      some [0xF6, 0x1A, 0, 0, 0, 0, 0, 0] := by decide

/-- §2.13, `94`, `95`, `99` in joystick modes Monitoring, Auto and Off. -/
theorem test_q_joymode : after (given s1 [0x94]) (·.out) = some [0xF6, 0x17, 0, 0, 0, 0, 0, 0] ∧
    after (given s0 [0x95]) (·.out) = some [0xF6, 0x14, 0, 0, 0, 0, 0, 0] ∧
    after (given { s1 with mode := ⟨.off, .off⟩ } [0x99]) (·.out) =
      some [0xF6, 0x1A, 0, 0, 0, 0, 0, 0] := by decide

/-! ## Framing, checksum, tick and events -/

/-- V-FR-2. -/
theorem test_partial_frame :
    after { s0 with frame := [0x0B], calls := [.submit 0x05 0 0] } (·.frame) = some [0x0B, 0x05] := by
  decide

/-- V-FR-1, V-FR-5: an unknown byte is dropped and does not clear paused. -/
theorem test_unknown_byte :
    after { s0 with paused := true, calls := [.submit 0x00 0 0] } (fun t => (t.frame, t.paused)) =
      some ([], true) := by decide

/-- V-CRC-1, V-CRC-3, V-CRC-5. -/
theorem test_crc_short :
    crcOf [] = 0xFFFFFFFF ∧ crcOf [0x00] = 0x4E08BFB4 ∧ crcOf [0xFF] = 0xFFFFFF00 := by decide

/-- V-CRC-2. -/
theorem test_crc_check_string :
    crcOf [0x31, 0x32, 0x33, 0x34, 0x35, 0x36, 0x37, 0x38, 0x39] = 0x0376E6E7 := by decide +kernel

/-- V-CRC-8, V-CRC-10. -/
theorem test_crc_programs :
    crcOf [0xAA, 0xBB, 0xCC] = 0x4F08F187 ∧ crcOf [0x80, 0x01, 0x55] = 0xE6793F30 := by decide +kernel

/-- V-REL-1: 300 units in three packets. -/
theorem test_relative_long :
    relPackets 0xF8 1 1 1 (relBound 300 0) false 300 0 =
      ⟨[0xF8, 0x7F, 0x00, 0xF8, 0x7F, 0x00, 0xF8, 0x2E, 0x00], 0, 0⟩ := by decide

/-- V-REL-10, V-REL-3, and V-PT-9's direction. -/
theorem test_relative_short :
    relPackets 0xF8 1 1 1 (relBound (-1) (-129)) false (-1) (-129) =
      ⟨[0xF8, 0xFF, 0x80, 0xF8, 0x00, 0xFF], 0, 0⟩ ∧
    relPackets 0xF8 5 5 1 (relBound 4 0) false 4 0 = ⟨[], 4, 0⟩ ∧
    relPackets 0xF8 1 1 (-1) (relBound 0 3) false 0 3 = ⟨[0xF8, 0x00, 0xFD], 0, 0⟩ := by decide

/-- V-REL-9's header, V-REL-6's and V-REL-8's. -/
theorem test_relative_header : relHeader true true = 0xFB ∧ relHeader true false = 0xFA ∧
    relHeader false true = 0xF9 ∧ relHeader false false = 0xF8 := by decide

/-- V-REL-8, V-REL-6: a button edge alone sends one packet with parts 0. -/
theorem test_relative_edge :
    relPackets 0xF8 1 1 1 (relBound 0 0) true 0 0 = ⟨[0xF8, 0x00, 0x00], 0, 0⟩ := by decide

/-- V-CUR-4 in X and Y, and V-CUR-2's cap. -/
theorem test_cursor_axis :
    cursorAxis 4 keyRight keyLeft 10 9 = ([0x4D, 0xCD, 0x4D, 0xCD], 1) ∧
    cursorAxis 2 keyDown keyUp 10 (-5) = ([0x48, 0xC8, 0x48, 0xC8], -1) ∧
    (cursorAxis 1 keyRight keyLeft 10 25).2 = 15 := by decide

/-- V-PT-7: the scale truncates toward zero, and the position does not go below 0. -/
theorem test_accumulate :
    (step5Accumulate { s1 with abs := ⟨0, 0, 319, 199, 0x0A⟩,
                               rel := { s1.rel with xScale := 2, yScale := 2, yAxis := .top },
                               live := { liveZero with dx := 7, dy := -5 } }).abs =
      ⟨3, 0, 319, 199, 0x0A⟩ := by decide

/-- V-KEY-6 and V-JOY-6, steps 2 to 10: in Monitoring with step 4 taken only the key code, and else
only the monitoring packet, the wheel not consumed. -/
theorem test_skeleton_monitoring :
    (tickReports { s1 with live := { liveZero with buttons := 1 } }).out = [0x74] ∧
    ((tickReports { s1 with live := { liveZero with wheel := 2 } }).out.length,
      (tickReports { s1 with live := { liveZero with wheel := 2 } }).consumed.wheelUsed) = (2, 0) := by
  decide

/-- V-JOY-4: the monitoring packet. -/
theorem test_monitor_packet : monitorFire 0x81 0x04 = 0x02 ∧ monitorDirs 0x81 0x04 = 0x14 := by decide

/-- X8: lane 1 changes to `0x81`, lane 0 does not. -/
theorem test_lane_packet :
    (step7Joystick { s0 with joy1 := ⟨0x81, 0x00⟩ }).out = [0xFF, 0x81] := by decide

/-- V-KEY-5: both buttons go down. -/
theorem test_button_codes : (step4ButtonKeys ⟨true, true, true, true⟩ s1).out = [0x74, 0x75] := by
  decide

/-- V-KEY-2: the left button comes up. -/
theorem test_button_release : (step4ButtonKeys ⟨false, false, true, false⟩ s1).out = [0xF4] := by
  decide

/-- V-FR-9: while the countdown runs a tick does nothing else. -/
theorem test_countdown : after { State.reset with
      rt := ⟨3, true, false, false, false, false⟩, calls := [.tick { liveZero with dx := 9 }] }
    (fun t => (t.rt.count, t.abs.x, t.rel.pendX, t.consumed, t.out)) =
      some (2, 0, 0, ⟨0, 0, 0⟩, []) := by decide

/-- The last tick of the boot emits `F1`. -/
theorem test_boot_byte : after { State.reset with
      rt := ⟨1, true, false, false, false, false⟩, calls := [.tick liveZero] }
    (fun t => (t.rt.count, t.rt.inWindow, t.out)) = some (0, false, [0xF1]) := by decide

/-- V-HOST-1, V-HOST-2. -/
theorem test_key_event :
    after (calling s0 (.keyEvent 0x1E)) (fun t => (t.keys[0x1E], t.out)) = some (true, [0x1E]) ∧
    after (calling { s0 with paused := true } (.keyEvent 0x1E)) (fun t => (t.keys[0x1E], t.out)) =
      some (true, []) := by decide

/-- V-CP-3: a RESET frame is boot-stage data. -/
theorem test_boot_stage_crc : crcByte (crcByte crcSeed 0x80) 0x01 = 0x86FAA152 := by decide +kernel

/-- What `withFetchWord` places is what the next step runs. -/
theorem test_withFetchWord : after (s0.withFetchWord 8 0x0F) (·.rel.yAxis) = some .bottom ∧
    after (s0.withFetchWord 16 0x0407) (·.rel.action) = some 0x04 := by decide

/-! ## Witnesses: for each statement with hypotheses, a state and operands that meet them -/

/-- A state in which the host is about to submit `b` after the waiting bytes `fr`. -/
def byteAt (s : State) (fr : List Byte) (b : Byte) : State :=
  { s with frame := fr, calls := [.submit b 0 0] }

theorem witness_DecodeEncodeRoundTrip : (Instr.setAbs 639 399).wellFormed = true := by decide

theorem witness_EncodeDecodeRoundTrip :
    decode [0x0B, 0x05, 0x07, 0xAA] = .command (.setThresh 5 7) [0xAA] := by decide

/-- An instruction that completes (with the longest waiting frame, in phase BootMatched), and one
that is refused. -/
theorem witness_StepRunsTheDecodedCommand :
    (let s := byteAt { s0 with phase := .bootMatched 5 } [0x1B, 1, 2, 3, 4, 5] 6
     s.calls = [.submit 6 0 0] ∧ Framing s.phase ∧ s.frame.length < 8 ∧
       decode (s.frame ++ [6]) = .command (.setClock 1 2 3 4 5 6) [] ∧
       ∃ t, exec (.setClock 1 2 3 4 5 6) { s with
         calls := [], live := { s.live with joy0 := 0, joy1 := 0 }, frame := s.frame ++ [6],
         paused := false } = .next t) ∧
    (let s := byteAt s0 [] 0x15
     s.calls = [.submit 0x15 0 0] ∧ Framing s.phase ∧ s.frame.length < 8 ∧
       decode (s.frame ++ [0x15]) = .command .joyQmode [] ∧
       ∃ r, exec .joyQmode { s with
         calls := [], live := { s.live with joy0 := 0, joy1 := 0 }, frame := s.frame ++ [0x15],
         paused := false } = .refused r) :=
  ⟨⟨rfl, .inr ⟨5, rfl⟩, by decide, by decide, _, rfl⟩, rfl, .inl rfl, by decide, by decide, _, rfl⟩

theorem witness_PlacedWordRunsNext :
    decodeTableWord 8 0x0D = some .interrogateAbs ∧
    (∃ t, exec .interrogateAbs { s0 with
      frame := encode .interrogateAbs, paused := false, phase := framingPhase s0.phase } = .next t) ∧
    decodeTableWord 8 0x16 = some .joyQuery ∧
    (∃ r, exec .joyQuery { s0 with
      frame := encode .joyQuery, paused := false, phase := framingPhase s0.phase } = .refused r) :=
  ⟨by decide, ⟨_, rfl⟩, by decide, _, rfl⟩

theorem witness_FramerDropsOrWaits :
    (byteAt s0 [] 0x00).calls = [.submit 0x00 0 0] ∧ Framing s0.phase ∧
    decode [0x00] = .unknownOpcode 0x00 ∧ decode [0xFF] = .unknownOpcode 0xFF ∧
    ([0x0B] : List Byte).length < 8 ∧ decode ([0x0B] ++ [0x05]) = .incomplete 3 :=
  ⟨rfl, .inl rfl, by decide, by decide, by decide, by decide⟩

theorem witness_RecognizedCommandClearsPaused :
    let s := byteAt { s0 with paused := true } [0x07] 0x04
    Completes (.setAction 0x04) s ∧ Instr.setAction 0x04 ≠ .pause ∧ ∃ t, step s = .next t :=
  ⟨⟨0x04, 0, 0, [], rfl, .inl rfl, by decide⟩, by decide, _, rfl⟩

/-- The start of V-FR-7. -/
def sixZeros : State := { s0 with
  frame := [0x1B, 0x24]
  calls := List.replicate 6 (.submit 0x00 0 0) }

theorem witness_SixZeroBytesResynchronize :
    SpecInv sixZeros ∧ sixZeros.calls = List.replicate 6 (.submit 0x00 0 0) ∧
    sixZeros.phase = .standard ∧ sixZeros.frame.head? ≠ some 0x19 ∧
    ∃ t, Host.Core.run Sys2Proof.core 6 sixZeros = .next t :=
  ⟨⟨by decide, fun _ => .inl rfl, Nat.zero_le _, Nat.zero_le _, by decide, by decide, by decide,
    by decide, fun _ h => by cases h⟩, rfl, rfl, by decide, _, rfl⟩

theorem witness_SetRelAndSetKeycodeSelectTheirModes :
    true = (if State.reset.rt.inWindow then true else State.reset.rt.ptrChangedInWindow) ∧
    false = (if s0.rt.inWindow then true else s0.rt.ptrChangedInWindow) := by decide

theorem witness_InterrogateAbsReportsEdgesAndPosition :
    (0x0A : Byte) = ((if s0.btn.r.ptr ∨ s0.btn.r.joy then 0x01 else 0x02) |||
      (if s0.btn.l.ptr ∨ s0.btn.l.joy then 0x04 else 0x08)) := by decide

/-- Outside the window, and at the window's edge with the joystick not disabled; then both. -/
theorem witness_DisablePtrAndTheDualDisableQuirk :
    ¬ (s0.rt.joyDisabled = true ∧ s0.rt.inWindow = true) ∧
    ¬ (State.reset.rt.joyDisabled = true ∧ State.reset.rt.inWindow = true) ∧
    (⟨3, true, false, true, false, false⟩ : ResetTimer).joyDisabled = true ∧
    (⟨3, true, false, true, false, false⟩ : ResetTimer).inWindow = true := by decide

theorem witness_JoyAutoSamplesAndSends :
    ∃ c0 c1, c0 = joySample s0.live.joy0 ∧ c1 = joySample s0.live.joy1 := ⟨_, _, rfl, rfl⟩

theorem witness_DisableJoyAndTheDualDisableQuirk :
    ¬ (s0.rt.ptrDisabled = true ∧ s0.rt.inWindow = true) ∧
    ¬ (State.reset.rt.ptrDisabled = true ∧ State.reset.rt.inWindow = true) ∧
    (⟨3, true, true, false, true, false⟩ : ResetTimer).ptrDisabled = true ∧
    (⟨3, true, true, false, true, false⟩ : ResetTimer).inWindow = true := by decide

/-- Both orders, inside the window (X5) and outside it. -/
theorem witness_BothDisablesInTheWindowReenableBoth :
    (∃ t u, exec .disablePtr State.reset = .next t ∧ exec .disableJoy t = .next u ∧
      State.reset.rt.inWindow = true) ∧
    (∃ t u, exec .disableJoy s0 = .next t ∧ exec .disablePtr t = .next u ∧
      s0.rt.inWindow = false) :=
  ⟨⟨_, _, rfl, rfl, rfl⟩, _, _, rfl, rfl, rfl⟩

theorem witness_ResetCommandNeedsTheMagicByte :
    (0x00 : Byte) ≠ 0x01 ∧ (0x02 : Byte) ≠ 0x01 := by decide

theorem witness_PauseOutsideTheWindowAndResume :
    s0.rt.inWindow = false ∧ State.reset.rt.inWindow = true := by decide

theorem witness_ClockBytesAreStoredOneByOne : ∃ keep : Byte → Byte → Byte, ∀ old new,
    keep old new = if new.toNat / 16 ≤ 9 ∧ new.toNat % 16 ≤ 9 then new else old :=
  ⟨fun _ _ => _, fun _ _ => rfl⟩

theorem witness_ClockRoundTrip :
    (∀ v ∈ ([0x24, 0x01, 0x31, 0x23, 0x59, 0x99] : List Byte),
      v.toNat / 16 ≤ 9 ∧ v.toNat % 16 ≤ 9) ∧
    ∃ t u, exec (.setClock 0x24 0x01 0x31 0x23 0x59 0x99) s0 = .next t ∧
      exec .readClock t = .next u := ⟨by decide, _, _, rfl, rfl⟩

theorem witness_ExecuteNeedsAMatchedLoad :
    ({ s0 with phase := .bootMatched 5 } : State).phase = .bootMatched 5 ∧
    ∀ e, s0.phase ≠ .bootMatched e := ⟨rfl, fun _ h => by cases h⟩

theorem witness_MemLoadStartsALoad : (1 : Byte) ≠ 0 ∧ (255 : Byte) ≠ 0 := by decide

theorem witness_ReportsOfThePointerMode :
    Instr.qPtrmode8A = .qPtrmode88 ∨ Instr.qPtrmode8A = .qPtrmode89 ∨
      Instr.qPtrmode8A = .qPtrmode8A := by decide

theorem witness_ReportsOfTheJoystickMode :
    Instr.qJoymode95 = .qJoymode94 ∨ Instr.qJoymode95 = .qJoymode95 ∨
      Instr.qJoymode95 = .qJoymode99 := by decide

theorem witness_ReportsOfYAxisAndAvailability :
    Instr.qYaxis90 = .qYaxis8F ∨ Instr.qYaxis90 = .qYaxis90 := by decide

theorem witness_MemWriteThenMemRead : s0.mem.wf = true ∧
    (calling s0 (.hostWrite (.defaultKey 0) 0x1E)).calls = [.hostWrite (.defaultKey 0) 0x1E] ∧
    (calling s0 (.hostWrite (.defaultKey 0) 0x1E)).mem.wf = true := ⟨by decide, rfl, by decide⟩

/-- One byte to go, and two. -/
theorem witness_LoaderByteStoresAndCounts :
    (byteAt { s0 with phase := .loading 1 0x1000 0 } [] 0xAA).calls = [.submit 0xAA 0 0] ∧
    ({ s0 with phase := .loading 1 0x1000 0 } : State).phase = .loading 1 0x1000 0 ∧ 1 ≤ 1 ∧
    ({ s0 with phase := .loading 2 0xFFFF 0 } : State).phase = .loading 2 0xFFFF 0 ∧ 1 ≤ 2 := by
  decide

theorem witness_LoadRunsToCompletion :
    let s : State := { s0 with phase := .loading 1 0x1000 crcSeed, calls := [.submit 0xAA 0 0] }
    ([0xAA] : List Byte) ≠ [] ∧ s.phase = .loading ([0xAA] : List Byte).length 0x1000 crcSeed ∧
      s.calls = ([0xAA] : List Byte).map (fun b => .submit b 0 0) :=
  ⟨by decide, rfl, rfl⟩

/-- A byte in the boot stage, and one for a program's write handler. -/
theorem witness_BootStageTakesEveryByte :
    (let s := byteAt { s0 with phase := .executing (.boot crcSeed 0) } [] 0x80
     s.calls = [.submit 0x80 0 0] ∧ s.phase = .executing (.boot crcSeed 0)) ∧
    (let s := byteAt { s0 with phase := .executing (.main 5 7) } [] 0x80
     s.calls = [.submit 0x80 0 0] ∧ s.phase = .executing (.main 5 7)) :=
  ⟨⟨rfl, rfl⟩, rfl, rfl⟩

theorem witness_RegistryMatchesTheFirstEntry : ∀ c, crcRound c =
    if c.getLsbD 31 then (c <<< 1) ^^^ 0x04C11DB7 else c <<< 1 := fun _ => rfl

/-- A boot byte, and the external reset. -/
theorem witness_ExecutingIsLeftOnlyByReset :
    let s := byteAt { s0 with phase := .executing (.boot crcSeed 0) } [] 0x80
    s.phase = .executing (.boot crcSeed 0) ∧ (∃ t, step s = .next t) ∧
      ∃ t, step { s with calls := [.hwReset false] } = .next t ∧ t.phase = .standard :=
  ⟨rfl, ⟨_, rfl⟩, _, rfl, rfl⟩

theorem witness_ExternalResetValues :
    (calling s0 (.hwReset true)).calls = [.hwReset true] ∧
    (calling s0 (.hwReset false)).calls = [.hwReset false] := ⟨rfl, rfl⟩

/-- A key event, and the read handler call outside a custom program and in one. -/
theorem witness_KeyEventUpdatesTheTableAndEmits :
    (calling s0 (.keyEvent 0x9E)).calls = [.keyEvent 0x9E] ∧
    (∀ e loc, s0.phase ≠ .executing (.main e loc)) ∧
    ({ s0 with phase := .executing (.main 5 7) } : State).phase = .executing (.main 5 7) :=
  ⟨rfl, fun _ _ h => (by cases h), rfl⟩

theorem witness_CountdownTick :
    (calling State.reset (.tick liveZero)).calls = [.tick liveZero] ∧
    ({ s0 with rt := ⟨2, true, false, false, false, false⟩ } : State).rt.count = 0 + 2 ∧
    ({ s0 with rt := ⟨1, true, false, false, false, false⟩ } : State).rt.count = 1 := ⟨rfl, rfl, rfl⟩

theorem witness_CountdownEndsWithTheBootByte :
    let s : State := { s0 with
      rt := ⟨2, true, false, false, false, false⟩, calls := [.tick liveZero, .tick liveZero] }
    [liveZero, liveZero] ≠ [] ∧ s.rt.count = [liveZero, liveZero].length ∧
      s.calls = [liveZero, liveZero].map .tick ∧ 1 < [liveZero, liveZero].length ∧
      ∃ t, Host.Core.run Sys2Proof.core 1 s = .next t :=
  ⟨by decide, rfl, rfl, by decide, _, rfl⟩

theorem witness_FireDuplication :
    ({ s0 with mode := ⟨.off, .auto⟩ } : State).mode.pointer = .off ∧ s0.mode.pointer ≠ .off := by
  decide

/-- With the scales at which one clause ends and the other begins, and the greatest. -/
theorem witness_AccumulationClampsThePosition : (∃ t, t = step5Accumulate s1) ∧
    (1 : Byte).toNat ≤ 1 ∧ 2 ≤ (2 : Byte).toNat ∧ 2 ≤ (255 : Byte).toNat :=
  ⟨⟨_, rfl⟩, by decide⟩

/-- Both modes of steps 6 and 7, and the skeleton with step 4 taken and not, in and out of
Monitoring. -/
theorem witness_JoystickReportPackets :
    s1.mode.joystick = .monitoring ∧ s0.mode.joystick = .auto ∧
    (∃ s3 e s5, s3 = step3DuplicateFire (step2Sample s0) ∧ e = s3.btn.edges ∧
      s5 = step5Accumulate (step4ButtonKeys e (rememberButtons s3)) ∧
      false = (s0.rel.action.getLsbD 2 && (e.edgeL || e.edgeR))) ∧
    ∃ s3 e s5, s3 = step3DuplicateFire (step2Sample { s1 with live := { liveZero with buttons := 1 } }) ∧
      e = s3.btn.edges ∧ s5 = step5Accumulate (step4ButtonKeys e (rememberButtons s3)) ∧
      true = (s1.rel.action.getLsbD 2 && (e.edgeL || e.edgeR)) :=
  ⟨rfl, rfl, ⟨_, _, _, rfl, rfl, rfl, rfl⟩, _, _, _, rfl, rfl, rfl, rfl⟩

/-- Both directions, a threshold of 127 and one above it: parts just below their thresholds, and one
at its threshold. -/
theorem witness_RelativeLoopTerminates :
    1 ≤ 5 ∧ 1 ≤ 200 ∧ 127 ≤ 127 ∧ ((-1 : Int) = 1 ∨ (-1 : Int) = -1) ∧
    ((1 : Int) = 1 ∨ (1 : Int) = -1) ∧
    (4 : Int) = min (max 4 (-128)) 127 ∧ (-128 : Int) = min (max (300 * (-1)) (-128)) 127 ∧
    (4 : Int).natAbs < 5 ∧ (-128 : Int).natAbs < 200 ∧
    (5 : Int) = min (max 5 (-128)) 127 ∧ 5 ≤ (5 : Int).natAbs := by decide

theorem witness_RelativePacketsCarryTheMotion :
    (⟨[0xF8, 0x05, 0xFF], 0, 0⟩ : Drained) = relPackets 0xF8 2 2 1 7 false 5 (-1) ∧
    s0.mode.pointer = .relative ∧ s1.mode.pointer ≠ .relative ∧
    (0xFA : Byte) = (if true then (if false then 0xFB else 0xFA)
      else (if false then 0xF9 else 0xF8)) := by decide

theorem witness_CursorAxisDrainsUpToTheCap : 1 ≤ 1 ∧ 1 ≤ 255 ∧
    ({ s0 with mode := ⟨.cursorKeys, .auto⟩ } : State).mode.pointer = .cursorKeys ∧
    s0.mode.pointer ≠ .cursorKeys := by decide

/-- The three directions, a tick after the countdown in and out of Monitoring, and a definition of
`P_EXTRA_EVENTS` that refuses. -/
theorem witness_WheelUsesOneUnit :
    0 < ({ liveZero with wheel := 1 } : LiveInputs).wheel ∧
    ({ liveZero with wheel := -1 } : LiveInputs).wheel < 0 ∧ liveZero.wheel = 0 ∧
    (calling s1 (.tick liveZero)).calls = [.tick liveZero] ∧ s1.rt.count = 0 ∧
    s1.mode.joystick = .monitoring ∧
    (calling s0 (.tick liveZero)).calls = [.tick liveZero] ∧ s0.rt.count = 0 ∧
    s0.mode.joystick ≠ .monitoring ∧
    (fun _ _ _ _ => .refuse 3 : ExtraDefinition) s0.view s0.phase s0.mem s0.live = .refuse 3 := by
  decide

/-- X7 at the least and the greatest delta that one packet carries. -/
def oneUnit (dx : Int) : State := { s0 with
  joy0 := ⟨0, joySample 0⟩
  joy1 := ⟨0, joySample 0⟩
  live := { liveZero with dx := dx } }

theorem witness_SmallRelativeMotionIsOnePacket : ∀ dx ∈ [(1 : Int), 127],
    let s := oneUnit dx
    s.paused = false ∧ s.mode = ⟨.relative, .auto⟩ ∧ s.rel.xThr = 1 ∧ s.rel.yThr = 1 ∧
    s.rel.pendX = 0 ∧ s.rel.pendY = 0 ∧ s.btn.prevL = false ∧ s.btn.prevR = false ∧
    joySample s.live.joy0 = s.joy0.sent ∧ joySample s.live.joy1 = s.joy1.sent ∧
    s.live.buttons = 0 ∧ s.live.wheel = 0 ∧ 1 ≤ s.live.dx ∧ s.live.dx ≤ 127 ∧ s.live.dy = 0 := by
  intro dx h
  have hd : 1 ≤ dx ∧ dx ≤ 127 := by
    simp only [List.mem_cons, List.not_mem_nil, or_false] at h
    omega
  exact ⟨rfl, rfl, rfl, rfl, rfl, rfl, rfl, rfl, rfl, rfl, rfl, rfl, hd.1, hd.2, rfl⟩

theorem witness_PausedTickEmitsNothing :
    let s := calling { s0 with paused := true, mode := ⟨.relative, .monitoring⟩ } (.tick liveZero)
    s.calls = [.tick liveZero] ∧ s.rt.count = 0 ∧ s.paused = true ∧ ∃ t, step s = .next t :=
  ⟨rfl, rfl, rfl, _, rfl⟩

theorem witness_TickLeavesTheConfiguration :
    (calling s1 (.tick liveZero)).calls = [.tick liveZero] ∧
    (∃ t, step (calling s1 (.tick liveZero)) = .next t) ∧
    ∃ t, step (calling State.reset (.tick liveZero)) = .next t :=
  ⟨rfl, ⟨_, rfl⟩, _, rfl⟩

/-- The byte that completes SET_CLOCK, and a cold reset, each of a clock that then differs. -/
theorem witness_ClockChangesOnlyBySetClockOrColdReset :
    (∃ t, step (byteAt s0 [0x1B, 1, 2, 3, 4, 5] 6) = .next t ∧ t.clock ≠ s0.clock) ∧
    ∃ t, step (calling { s0 with clock := ⟨1, 2, 3, 4, 5, 6⟩ } (.hwReset true)) = .next t ∧
      t.clock ≠ ⟨1, 2, 3, 4, 5, 6⟩ :=
  ⟨⟨_, rfl, by decide⟩, _, rfl, by decide⟩

theorem witness_PausedIsSetOnlyByPause :
    (byteAt s0 [] 0x13).paused = false ∧
    ∃ t, step (byteAt s0 [] 0x13) = .next t ∧ t.paused = true := ⟨rfl, _, rfl, rfl⟩

/-- The invariant holds with a frame waiting, and a step from there answers a next state. -/
theorem witness_StepKeepsSpecInvariant : SpecInv sixZeros ∧ ∃ t, step sixZeros = .next t :=
  ⟨witness_SixZeroBytesResynchronize.1, _, rfl⟩

theorem witness_StepKeepsFieldInvariant :
    FieldInv (calling s1 (.tick liveZero)) ∧ ∃ t, step (calling s1 (.tick liveZero)) = .next t :=
  ⟨⟨by decide, by decide, by decide, fun _ _ _ h => (by cases h), by decide⟩, _, rfl⟩

end Sys2Proof.Tests
end

section
/-!
SUPPORT. What one submitted byte can do, said once: the decoder on a frame that waits, and every way
in which `submit` answers a next state (40_framer.md, 45_custom_program.md).
-/

namespace Sys2Proof.Machine

/-! ## The command table and the waiting frame -/

/-- Every frame length of the table is between 1 and `P_FRAME_CAP` (00_scope.md R9). -/
theorem totalLength_bounds :
    ∀ e ∈ cmdTable, 1 ≤ e.totalLength ∧ e.totalLength ≤ Config.frameCap := by decide

/-- The entry's handler accepts every frame of the entry's length. -/
def AcceptsItsLength (e : CmdEntry) : Prop :=
  ∀ ps : List Byte, ps.length + 1 = e.totalLength → ∃ i, e.handler ps = some i

@[simp] theorem acceptsItsLength_formatF1 (op : Byte) (k : Instr) :
    AcceptsItsLength ⟨op, 1, formatF1 k⟩
  | [], _ => ⟨_, rfl⟩

@[simp] theorem acceptsItsLength_formatF2 (op : Byte) (k : Byte → Instr) :
    AcceptsItsLength ⟨op, 2, formatF2 k⟩
  | [_], _ => ⟨_, rfl⟩

@[simp] theorem acceptsItsLength_formatF3 (op : Byte) (k : Byte → Byte → Instr) :
    AcceptsItsLength ⟨op, 3, formatF3 k⟩
  | [_, _], _ => ⟨_, rfl⟩

@[simp] theorem acceptsItsLength_formatF3W (op : Byte) (k : Word16 → Instr) :
    AcceptsItsLength ⟨op, 3, formatF3W k⟩
  | [_, _], _ => ⟨_, rfl⟩

@[simp] theorem acceptsItsLength_formatF4W (op : Byte) (k : Word16 → Byte → Instr) :
    AcceptsItsLength ⟨op, 4, formatF4W k⟩
  | [_, _, _], _ => ⟨_, rfl⟩

@[simp] theorem acceptsItsLength_formatF5W (op : Byte) (k : Word16 → Word16 → Instr) :
    AcceptsItsLength ⟨op, 5, formatF5W k⟩
  | [_, _, _, _], _ => ⟨_, rfl⟩

@[simp] theorem acceptsItsLength_formatF6W (op : Byte) (k : Byte → Word16 → Word16 → Instr) :
    AcceptsItsLength ⟨op, 6, formatF6W k⟩
  | [_, _, _, _, _], _ => ⟨_, rfl⟩

@[simp] theorem acceptsItsLength_formatF7 (op : Byte)
    (k : Byte → Byte → Byte → Byte → Byte → Byte → Instr) :
    AcceptsItsLength ⟨op, 7, formatF7 k⟩
  | [_, _, _, _, _, _], _ => ⟨_, rfl⟩

theorem cmdTable_acceptsItsLength : ∀ e ∈ cmdTable, AcceptsItsLength e := by
  simp [cmdTable, commandRows, reportRows]

theorem lookup_mem {op : Byte} {e : CmdEntry} (h : lookup op = some e) : e ∈ cmdTable :=
  List.mem_of_find?_eq_some h

theorem decode_of_lookup_none {op : Byte} (h : lookup op = none) (ps : List Byte) :
    decode (op :: ps) = .unknownOpcode op := by
  simp [decode, h]

/-- Bytes exactly as long as the frame of their first byte are a command and nothing more. -/
theorem decode_of_full_length {op : Byte} {e : CmdEntry} {ps : List Byte}
    (h : lookup op = some e) (hl : ps.length + 1 = e.totalLength) :
    ∃ i, decode (op :: ps) = .command i [] := by
  obtain ⟨i, hi⟩ := cmdTable_acceptsItsLength e (lookup_mem h) ps hl
  have hn : e.totalLength - 1 = ps.length := by omega
  exact ⟨i, by simp [decode, h, hn, hi, show ¬ ps.length + 1 < e.totalLength by omega]⟩

theorem frameWellFormed_cons {op : Byte} {ps : List Byte} :
    frameWellFormed cmdTable (op :: ps) = true ↔
      ∃ e, lookup op = some e ∧ ps.length + 1 < e.totalLength := by
  simp only [frameWellFormed, ← lookup.eq_def]
  cases h : lookup op with
  | none => simp
  | some e =>
    have hcap := (totalLength_bounds e (lookup_mem h)).2
    simpa using fun hl : ps.length + 1 < e.totalLength => (hl.trans_le hcap).le

/-- After one more byte a well-formed frame is not over its length: it is that much, or it waits. -/
theorem appendByte_of_frameWellFormed {frame : List Byte} (b : Byte)
    (hf : frameWellFormed cmdTable frame = true) :
    ∃ op ps, appendByte b frame = op :: ps ∧
      ∀ e, lookup op = some e → ps.length + 1 ≤ e.totalLength := by
  cases frame with
  | nil => exact ⟨b, [], rfl, fun e he => (totalLength_bounds e (lookup_mem he)).1⟩
  | cons op ps =>
    obtain ⟨e, he, hl⟩ := frameWellFormed_cons.1 hf
    have hcap := (totalLength_bounds e (lookup_mem he)).2
    refine ⟨op, ps ++ [b], ?_, fun d hd => ?_⟩
    · simp [appendByte, show ps.length + 1 < Config.frameCap by omega]
    · obtain rfl : e = d := Option.some.inj (he.symm.trans hd)
      simpa using hl

/-- 40_framer.md R134: a frame that a byte leaves neither complete nor unknown is one that waits. -/
theorem appendByte_frameWellFormed {b : Byte} {frame : List Byte}
    (hf : frameWellFormed cmdTable frame = true)
    (hc : ∀ i, decode (appendByte b frame) ≠ .command i [])
    (hu : ∀ op, decode (appendByte b frame) ≠ .unknownOpcode op) :
    frameWellFormed cmdTable (appendByte b frame) = true := by
  obtain ⟨op, ps, hps, hle⟩ := appendByte_of_frameWellFormed b hf
  rw [hps] at hc hu ⊢
  cases he : lookup op with
  | none => exact absurd (decode_of_lookup_none he ps) (hu op)
  | some e =>
    refine frameWellFormed_cons.2 ⟨e, he, lt_of_le_of_ne (hle e he) fun hl => ?_⟩
    obtain ⟨i, hi⟩ := decode_of_full_length he hl
    exact hc i hi

/-! ## What a submitted byte can do -/

/-- Every way in which `submit(b)` answers a next state (40_framer.md R130 to R137,
45_custom_program.md R261, R263). -/
inductive SubmitStep (b : Byte) (s : State) : State → Prop
  | command (i : Instr) (u : State) (framing : Framing s.phase)
      (complete : decode (appendByte b s.frame) = .command i [])
      (run : exec i { s with frame := appendByte b s.frame, paused := false } = .next u) :
      SubmitStep b s { u with frame := [] }
  | unknown (framing : Framing s.phase) : SubmitStep b s { s with frame := [] }
  | waits (framing : Framing s.phase)
      (notComplete : ∀ i, decode (appendByte b s.frame) ≠ .command i [])
      (notUnknown : ∀ op, decode (appendByte b s.frame) ≠ .unknownOpcode op) :
      SubmitStep b s { s with frame := appendByte b s.frame }
  | load (rem : Nat) (dest : Word16) (crc : Word32) (loading : s.phase = .loading rem dest crc) :
      SubmitStep b s (loaderByte rem dest crc b s)
  | boot (crc : Word32) (n : Nat) (executing : s.phase = .executing (.boot crc n)) :
      SubmitStep b s (bootByteStep crc n b s)
  | write (e : EntryIndex) (loc loc' : LocalState) (out : List Byte) (exit : Bool)
      (executing : s.phase = .executing (.main e loc)) :
      SubmitStep b s (mainWriteDone e loc' out exit s)

theorem submit_next {b : Byte} {s t : State} (h : submit b s = .next t) : SubmitStep b s t := by
  obtain ⟨hf, he⟩ | ⟨rem, dest, crc, hp, he⟩ | ⟨st, hp, he⟩ := submit_cases b s <;> rw [he] at h
  · obtain ⟨i, hi, hd⟩ | ⟨op, -, rfl⟩ | ⟨hc, hu, rfl⟩ := frameByte_next h
    · obtain ⟨u, hu, rfl⟩ := dispatch_next hd
      exact .command i u hf hi hu
    · exact .unknown hf
    · exact .waits hf hc hu
  · cases h
    exact .load rem dest crc hp
  · obtain ⟨crc, n, rfl, rfl⟩ | ⟨e, loc, loc', out, exit, rfl, -, rfl⟩ := writeHandlerByte_next h
    · exact .boot crc n hp
    · exact .write e loc loc' out exit hp

/-! ## What the shared operations of the commands leave unchanged -/

theorem dualDisableCheck_update {s u : State} (h : dualDisableCheck s = u) :
    ∃ m b, u = { s with mode := m, rt := { s.rt with both := b } } := by
  subst h
  obtain ⟨h, -⟩ | ⟨h, -⟩ := dualDisableCheck_cases s <;> exact ⟨_, _, h⟩

theorem joyAutoQuirk_update {s u : State} (h : joyAutoQuirk s = u) :
    ∃ m b, u = { s with mode := m, rt := { s.rt with both := b } } := by
  subst h
  obtain ⟨h, -⟩ | ⟨h, -⟩ := joyAutoQuirk_cases s <;> exact ⟨_, _, h⟩

theorem loadPhase_ne_executing (rem : Nat) (dest : Word16) (crc : Word32) (st : ExecStage) :
    loadPhase rem dest crc ≠ .executing st := by
  obtain ⟨-, h⟩ | ⟨-, h⟩ := loadPhase_cases rem dest crc
  · obtain hc | ⟨e, hc⟩ := loadComplete_cases crc <;> simp [h, hc]
  · simp [h]

/-- A load that is under way after the phase was chosen is the one that was asked for. -/
theorem loadPhase_eq_loading {rem r : Nat} {dest d : Word16} {crc c : Word32}
    (h : loadPhase rem dest crc = .loading r d c) : r = rem ∧ 0 < rem := by
  obtain ⟨-, hp⟩ | ⟨hpos, hp⟩ := loadPhase_cases rem dest crc <;> rw [hp] at h
  · obtain hc | ⟨e, hc⟩ := loadComplete_cases crc <;> simp [hc] at h
  · cases h
    exact ⟨rfl, hpos⟩

end Sys2Proof.Machine
end

section
/-!
SUPPORT. What one command and one tick leave unchanged: the settings that 10_state.md R61 bounds,
the paused flag, and the frame of steps 2 to 10. `{ hs with }` carries an invariant over to a state
that agrees on every field the invariant names.
-/

namespace Sys2Proof.Machine

/-! ## The settings that R61 bounds, and the commands -/

/-- Items 3, 4 and 5 of 10_state.md R61: the position, the thresholds and the window. -/
structure SettingsInv (s : State) : Prop where
  abs_x : s.abs.x.toNat ≤ s.abs.maxX.toNat
  abs_y : s.abs.y.toNat ≤ s.abs.maxY.toNat
  x_thr : 1 ≤ s.rel.xThr.toNat
  y_thr : 1 ≤ s.rel.yThr.toNat
  window : s.rt.inWindow = true ↔ 0 < s.rt.count

theorem SpecInv.settings {s : State} (hs : SpecInv s) : SettingsInv s :=
  ⟨hs.abs_x, hs.abs_y, hs.x_thr, hs.y_thr, hs.window⟩

theorem yAxis_sign_cases (y : YAxis) : y.sign = 1 ∨ y.sign = -1 := by
  cases y
  · exact .inl rfl
  · exact .inr rfl

/-- Item 6 holds of every state, so R61 is the settings and what ties the frame, the phase and the
pause to one another. -/
theorem SettingsInv.specInv {s : State} (hs : SettingsInv s)
    (hwf : frameWellFormed cmdTable s.frame = true) (hphase : s.frame ≠ [] → Framing s.phase)
    (hp : ∀ st, s.phase = .executing st → s.paused = false) : SpecInv s :=
  ⟨hwf, hphase, hs.abs_x, hs.abs_y, hs.x_thr, hs.y_thr, hs.window, yAxis_sign_cases _, hp⟩

/-- After any reset (10_state.md R60) the settings are in bounds. -/
theorem engineReset_settingsInv (cold : Bool) (s : State) : SettingsInv (engineReset cold s) where
  abs_x := Nat.zero_le _
  abs_y := Nat.zero_le _
  x_thr := le_rfl
  y_thr := le_rfl
  window := iff_of_true rfl (Nat.succ_pos _)

theorem engineReset_specInv (cold : Bool) (s : State) : SpecInv (engineReset cold s) :=
  (engineReset_settingsInv cold s).specInv rfl (fun h => absurd rfl h) (fun _ _ => rfl)

/-! ## The commands that choose between outcomes -/

theorem exec_reset_next {m : Byte} {s u : State} (h : exec (.reset m) s = .next u) :
    u = engineReset false s ∨ u = s := by
  simp only [exec, execReset] at h
  split at h <;> cases h
  · exact .inl rfl
  · exact .inr rfl

theorem exec_execute_next {a : Word16} {s u : State} (h : exec (.execute a) s = .next u) :
    u = enterExecuting s ∨ u = s := by
  simp only [exec, execExecute] at h
  split at h <;> cases h
  · exact .inl rfl
  · exact .inr rfl

/-- DISABLE_PTR writes the modes and the flags of the window, not its countdown. -/
theorem exec_disablePtr_next {s u : State} (h : exec .disablePtr s = .next u) :
    ∃ m p j c b, u = { s with mode := m, rt := ⟨s.rt.count, s.rt.inWindow, p, j, c, b⟩ } := by
  obtain ⟨m, b, hu⟩ := dualDisableCheck_update (Host.Outcome.next.inj h)
  exact ⟨m, _, _, _, b, hu⟩

/-- DISABLE_JOY writes the modes and the flags of the window, not its countdown. -/
theorem exec_disableJoy_next {s u : State} (h : exec .disableJoy s = .next u) :
    ∃ m p j c b, u = { s with mode := m, rt := ⟨s.rt.count, s.rt.inWindow, p, j, c, b⟩ } := by
  obtain ⟨m, b, hu⟩ := dualDisableCheck_update (Host.Outcome.next.inj h)
  exact ⟨m, _, _, _, b, hu⟩

theorem exec_joyAuto_next {s u : State} (h : exec .joyAuto s = .next u) :
    ∃ m b, u = sampleAndSend { s with mode := m, rt := { s.rt with both := b } } := by
  obtain ⟨m, b, hu⟩ := joyAutoQuirk_update (u := joyAutoQuirk _) rfl
  exact ⟨m, b, (Host.Outcome.next.inj h).symm.trans (congrArg sampleAndSend hu)⟩

/-- Every command keeps the position within its maxima, the thresholds positive and the window
open exactly while the countdown runs. -/
theorem exec_settingsInv {i : Instr} {s u : State} (h : exec i s = .next u)
    (hs : SettingsInv s) : SettingsInv u := by
  cases i with
  | reset m =>
    obtain rfl | rfl := exec_reset_next h
    · exact engineReset_settingsInv false s
    · exact hs
  | setAbs mx my =>
    cases h
    exact { hs with abs_x := minCoord_le _ _, abs_y := minCoord_le _ _ }
  | loadPos fl x y =>
    cases h
    exact { hs with abs_x := clampCoord_le _ _, abs_y := clampCoord_le _ _ }
  | setThresh xt yt =>
    cases h
    exact { hs with x_thr := one_le_max1 _, y_thr := one_le_max1 _ }
  | disablePtr =>
    obtain ⟨m, p, j, c, b, rfl⟩ := exec_disablePtr_next h
    exact { hs with }
  | disableJoy =>
    obtain ⟨m, p, j, c, b, rfl⟩ := exec_disableJoy_next h
    exact { hs with }
  | joyAuto =>
    obtain ⟨m, b, rfl⟩ := exec_joyAuto_next h
    exact { hs with }
  | execute a =>
    obtain rfl | rfl := exec_execute_next h
    · exact { hs with }
    · exact hs
  | joyQmode | joyQuery | fireMonitor | joyKeycode => exact absurd h (refuseNoHandler_ne_next _ _ _)
  | _ =>
    -- no other command writes the position, its maxima, a threshold, the countdown or the window
    cases h
    exact { hs with }

/-- 43_cmd_system.md R201: of all commands only PAUSE outside the window sets the paused flag, and
it leaves the phase as it is. -/
theorem exec_paused {i : Instr} {s u : State} (h : exec i s = .next u) (hs : s.paused = false) :
    u.paused = false ∨ i = .pause ∧ s.rt.inWindow = false ∧ u.phase = s.phase := by
  cases i with
  | pause =>
    cases hw : s.rt.inWindow <;> cases h
    · exact .inr ⟨rfl, rfl, rfl⟩
    · simp [hw, hs]
  | reset m =>
    obtain rfl | rfl := exec_reset_next h
    · exact .inl rfl
    · exact .inl hs
  | disablePtr =>
    obtain ⟨m, p, j, c, b, rfl⟩ := exec_disablePtr_next h
    exact .inl hs
  | disableJoy =>
    obtain ⟨m, p, j, c, b, rfl⟩ := exec_disableJoy_next h
    exact .inl hs
  | joyAuto =>
    obtain ⟨m, b, rfl⟩ := exec_joyAuto_next h
    exact .inl hs
  | execute a =>
    obtain rfl | rfl := exec_execute_next h <;> exact .inl hs
  | joyQmode | joyQuery | fireMonitor | joyKeycode => exact absurd h (refuseNoHandler_ne_next _ _ _)
  | _ =>
    -- no other command writes the paused flag
    cases h
    exact .inl hs

/-! ## What a tick leaves unchanged -/

/-- Only the lane bits are set in both masks of the lane (10_state.md R44). -/
def Lane.Masked (l : Lane) : Prop := l.cur &&& ~~~joyMask = 0 ∧ l.sent &&& ~~~joyMask = 0

/-- `s` with the fields that steps 2 to 10 of a tick may write taken from `t`. -/
def tickWrites (s t : State) : State :=
  { s with
    abs      := { s.abs with x := t.abs.x, y := t.abs.y }
    rel      := { s.rel with pendX := t.rel.pendX, pendY := t.rel.pendY }
    joy0     := t.joy0
    joy1     := t.joy1
    btn      := t.btn
    pad      := t.pad
    out      := t.out
    consumed := t.consumed }

/-- From `s` to `t` nothing changed that steps 2 to 10 of a tick leave alone, and the position and
the lanes stayed within their bounds (46_tick.md R280). -/
structure TickFrame (s t : State) : Prop where
  eq    : t = tickWrites s t
  abs_x : s.abs.x.toNat ≤ s.abs.maxX.toNat → t.abs.x.toNat ≤ t.abs.maxX.toNat
  abs_y : s.abs.y.toNat ≤ s.abs.maxY.toNat → t.abs.y.toNat ≤ t.abs.maxY.toNat
  joy0  : s.joy0.Masked → t.joy0.Masked
  joy1  : s.joy1.Masked → t.joy1.Masked

namespace TickFrame

theorem refl (s : State) : TickFrame s s := ⟨rfl, id, id, id, id⟩

theorem trans {s t u : State} (h : TickFrame s t) (k : TickFrame t u) : TickFrame s u where
  eq := calc
    u = tickWrites t u := k.eq
    _ = tickWrites (tickWrites s t) u := by rw [← h.eq]
    _ = tickWrites s u := rfl
  abs_x := k.abs_x ∘ h.abs_x
  abs_y := k.abs_y ∘ h.abs_y
  joy0 := k.joy0 ∘ h.joy0
  joy1 := k.joy1 ∘ h.joy1

theorem frame {s t : State} (h : TickFrame s t) : t.frame = s.frame :=
  (congrArg (·.frame) h.eq).trans rfl

theorem paused {s t : State} (h : TickFrame s t) : t.paused = s.paused :=
  (congrArg (·.paused) h.eq).trans rfl

theorem clock {s t : State} (h : TickFrame s t) : t.clock = s.clock :=
  (congrArg (·.clock) h.eq).trans rfl

theorem rt {s t : State} (h : TickFrame s t) : t.rt = s.rt :=
  (congrArg (·.rt) h.eq).trans rfl

theorem phase {s t : State} (h : TickFrame s t) : t.phase = s.phase :=
  (congrArg (·.phase) h.eq).trans rfl

theorem mem {s t : State} (h : TickFrame s t) : t.mem = s.mem :=
  (congrArg (·.mem) h.eq).trans rfl

theorem prevButtons {s t : State} (h : TickFrame s t) : t.abs.prevButtons = s.abs.prevButtons :=
  (congrArg (·.abs.prevButtons) h.eq).trans rfl

theorem xThr {s t : State} (h : TickFrame s t) : t.rel.xThr = s.rel.xThr :=
  (congrArg (·.rel.xThr) h.eq).trans rfl

theorem yThr {s t : State} (h : TickFrame s t) : t.rel.yThr = s.rel.yThr :=
  (congrArg (·.rel.yThr) h.eq).trans rfl

end TickFrame

theorem joySample_masked {l : Lane} (r : Word16) (h : l.Masked) :
    Lane.Masked { l with cur := joySample r } := ⟨joySample_mask r, h.2⟩

theorem Lane.Masked.fire {l : Lane} (h : l.Masked) :
    Lane.Masked { l with cur := l.cur ||| joyFire } :=
  ⟨by rw [BitVec.and_or_distrib_right, h.1]; rfl, h.2⟩

theorem Lane.Masked.allSent {l : Lane} (h : l.Masked) : Lane.Masked { l with sent := l.cur } :=
  ⟨h.1, h.1⟩

theorem step2Sample_tickFrame (s : State) : TickFrame s (step2Sample s) :=
  ⟨rfl, id, id, joySample_masked _, joySample_masked _⟩

theorem step3DuplicateFire_tickFrame (s : State) : TickFrame s (step3DuplicateFire s) := by
  simp only [step3DuplicateFire]
  split
  · exact ⟨rfl, id, id, id, id⟩
  · refine ⟨rfl, id, id, id, fun h => ?_⟩
    cases s.btn.r.ptr
    · exact h
    · exact h.fire

theorem rememberButtons_tickFrame (s : State) : TickFrame s (rememberButtons s) :=
  ⟨rfl, id, id, id, id⟩

theorem emitR_tickFrame (bs : List Byte) (s : State) : TickFrame s (s.emitR bs) :=
  ⟨rfl, id, id, id, id⟩

theorem step5Accumulate_tickFrame (s : State) : TickFrame s (step5Accumulate s) :=
  ⟨rfl, fun _ => clampCoord_le _ _, fun _ => clampCoord_le _ _, id, id⟩

theorem step7Joystick_tickFrame (s : State) : TickFrame s (step7Joystick s) := by
  simp only [step7Joystick]
  split
  · exact ⟨rfl, id, id, Lane.Masked.allSent, Lane.Masked.allSent⟩
  · exact .refl s

theorem step8Relative_tickFrame (e : Edges) (s : State) : TickFrame s (step8Relative e s) := by
  simp only [step8Relative]
  split
  · exact ⟨rfl, id, id, id, id⟩
  · exact .refl s

theorem step9CursorKeys_tickFrame (taken : Bool) (e : Edges) (s : State) :
    TickFrame s (step9CursorKeys taken e s) := by
  simp only [step9CursorKeys]
  split
  · exact ⟨rfl, id, id, id, id⟩
  · exact .refl s

theorem step10Wheel_tickFrame (s : State) : TickFrame s (step10Wheel s) := ⟨rfl, id, id, id, id⟩

theorem extraEventsDone_tickFrame (v : ExtraEvents) (s : State) :
    TickFrame s (extraEventsDone v s) := ⟨rfl, id, id, id, id⟩

theorem unlessSkipped_tickFrame {f : State → State} (hf : ∀ s, TickFrame s (f s)) (taken : Bool)
    (n : Nat) (s : State) : TickFrame s (unlessSkipped taken n f s) := by
  simp only [unlessSkipped]
  split
  · exact .refl s
  · exact hf s

theorem reportSteps_tickFrame (taken : Bool) (e : Edges) (s : State) :
    TickFrame s (reportSteps taken e s) := by
  simp only [reportSteps]
  split
  · exact unlessSkipped_tickFrame (fun s => emitR_tickFrame _ s) taken 6 s
  · exact (unlessSkipped_tickFrame step7Joystick_tickFrame taken 7 s)
      |>.trans (unlessSkipped_tickFrame (step8Relative_tickFrame e) taken 8 _)
      |>.trans (unlessSkipped_tickFrame (step9CursorKeys_tickFrame taken e) taken 9 _)
      |>.trans (step10Wheel_tickFrame _)

theorem tickReports_tickFrame (s : State) : TickFrame s (tickReports s) :=
  (step2Sample_tickFrame s)
    |>.trans (step3DuplicateFire_tickFrame _)
    |>.trans (rememberButtons_tickFrame _)
    |>.trans (emitR_tickFrame _ _)
    |>.trans (step5Accumulate_tickFrame _)
    |>.trans (reportSteps_tickFrame _ _ _)

theorem tickBody_tickFrame {d : ExtraDefinition} {s u : State} (h : tickBody d s = .next u) :
    TickFrame s u := by
  obtain ⟨-, rfl⟩ | ⟨-, v, rfl⟩ := tickBody_next h
  · exact tickReports_tickFrame s
  · exact (tickReports_tickFrame s).trans (extraEventsDone_tickFrame v _)

/-- If a tick answers a next state, it ran the countdown, or it changed only what steps 2 to 10 may
change and then ran the read handler (46_tick.md R280, R281). -/
theorem tick_next_tickFrame {s t : State} (h : tick s = .next t) :
    (0 < s.rt.count ∧ t = step1Countdown { s with consumed := consumedZero }) ∨
    ∃ u ev, TickFrame s u ∧ runRead ev u = .next t := by
  obtain ⟨hc, rfl⟩ | ⟨-, u, hu, ht⟩ := tick_next h
  · exact .inl ⟨hc, rfl⟩
  · have hz : TickFrame s { s with consumed := consumedZero } := ⟨rfl, id, id, id, id⟩
    exact .inr ⟨u, _, hz.trans (tickBody_tickFrame hu), ht⟩

/-- Step 1 writes the countdown, the window flag and the output (46_tick.md R281). -/
theorem step1Countdown_update (s : State) :
    ∃ w out, step1Countdown s =
      { s with rt := { s.rt with count := s.rt.count - 1, inWindow := w }, out := out } ∧
      (w = true ↔ s.rt.count ≠ 1 ∧ s.rt.inWindow = true) := by
  simp only [step1Countdown]
  split
  · rename_i h
    exact ⟨false, s.out ++ [bootByte], by simp [State.emit, h], by simp [h]⟩
  · rename_i h
    exact ⟨s.rt.inWindow, s.out, rfl, by simp [h]⟩

end Sys2Proof.Machine
end

section
/-!
PROOFS. The statements of 10_state.md about every step: R61 (O58), the paused flag (O57) and the
field rules (O59).
-/

namespace Sys2Proof.Machine

/-! ## R61: the seven invariants -/

/-- Item 2 read backwards: outside the framing phases nothing waits in the buffer. -/
theorem SpecInv.frame_nil {s : State} (hs : SpecInv s) (hp : ¬ Framing s.phase) : s.frame = [] :=
  Classical.byContradiction fun hf => hp (hs.frame_phase hf)

theorem not_framing_loading (rem : Nat) (dest : Word16) (crc : Word32) :
    ¬ Framing (.loading rem dest crc) := by simp [Framing]

theorem not_framing_executing (st : ExecStage) : ¬ Framing (.executing st) := by simp [Framing]

/-- In the framing phases no program is executing, so item 7 asks nothing. -/
theorem Framing.ne_executing {p : Phase} (hp : Framing p) (st : ExecStage) : p ≠ .executing st :=
  fun h => not_framing_executing st (h ▸ hp)

/-- While a program executes, R61 is kept as long as nothing is framed or paused, whatever the phase
becomes (45_custom_program.md R263, R269). -/
theorem SpecInv.executing {s t : State} {st : ExecStage} (hs : SpecInv s)
    (hp : s.phase = .executing st) (hset : SettingsInv t)
    (hf : t.frame = s.frame) (hpaused : t.paused = s.paused) : SpecInv t := by
  have hnil : t.frame = [] := hf.trans (hs.frame_nil (hp ▸ not_framing_executing st))
  exact hset.specInv (hnil ▸ rfl) (fun h => absurd hnil h)
    (fun _ _ => hpaused.trans (hs.not_paused st hp))

theorem submit_specInv {b : Byte} {s t : State} (h : submit b s = .next t)
    (hs : SpecInv s) : SpecInv t := by
  cases submit_next h with
  | command i u framing complete run =>
    have hset : SettingsInv u := exec_settingsInv run { hs.settings with }
    refine SettingsInv.specInv { hset with } rfl (fun h => absurd rfl h) fun st hst => ?_
    obtain hp | ⟨-, -, hphase⟩ := exec_paused run rfl
    · exact hp
    · exact absurd (hphase.symm.trans hst) (framing.ne_executing st)
  | unknown framing =>
    exact { hs with frame_wf := rfl, frame_phase := fun h => absurd rfl h }
  | waits framing notComplete notUnknown =>
    exact { hs with
      frame_wf := appendByte_frameWellFormed hs.frame_wf notComplete notUnknown
      frame_phase := fun _ => framing }
  | load rem dest crc loading =>
    have hnil := hs.frame_nil (loading ▸ not_framing_loading rem dest crc)
    exact { hs with
      frame_phase := fun h => absurd hnil h
      not_paused := fun st h => absurd h (loadPhase_ne_executing _ _ _ st) }
  | boot crc n executing => exact hs.executing executing { hs.settings with } rfl rfl
  | write e loc loc' out exit executing =>
    cases exit with
    | false => exact hs.executing executing { hs.settings with } rfl rfl
    | true => exact engineReset_specInv false _

theorem runRead_specInv {ev : ReadEvent} {s t : State} (h : runRead ev s = .next t)
    (hs : SpecInv s) : SpecInv t := by
  obtain rfl | ⟨e, loc, loc', out, hp, rfl⟩ := runRead_next h
  · exact hs
  · exact hs.executing hp { hs.settings with } rfl rfl

theorem TickFrame.specInv {s t : State} (hst : TickFrame s t) (hs : SpecInv s) : SpecInv t := by
  have hset : SettingsInv t := ⟨hst.abs_x hs.abs_x, hst.abs_y hs.abs_y, hst.xThr ▸ hs.x_thr,
    hst.yThr ▸ hs.y_thr, hst.rt ▸ hs.window⟩
  exact hset.specInv (hst.frame ▸ hs.frame_wf) (hst.frame ▸ hst.phase ▸ hs.frame_phase)
    (hst.phase ▸ hst.paused ▸ hs.not_paused)

theorem tick_specInv {s t : State} (h : tick s = .next t) (hs : SpecInv s) : SpecInv t := by
  obtain ⟨hc, rfl⟩ | ⟨u, ev, hu, ht⟩ := tick_next_tickFrame h
  · obtain ⟨w, out, he, hw⟩ := step1Countdown_update { s with consumed := consumedZero }
    rw [he]
    refine { hs with window := hw.trans ?_ }
    have hopen := hs.window.2 hc
    simp only [hopen, and_true]
    omega
  · exact runRead_specInv ht (hu.specInv hs)

theorem runCall_specInv {c : Call} {s t : State} (h : runCall c s = .next t)
    (hs : SpecInv s) : SpecInv t := by
  cases c with
  | submit b j0 j1 => exact submit_specInv h { hs with }
  | tick inp => exact tick_specInv h { hs with }
  | keyEvent code => exact runRead_specInv h { hs with }
  | hwReset cold => cases h; exact engineReset_specInv cold s
  | hostWrite cell b => cases h; exact { hs with }

/-- Settles O58: each call keeps R61, a byte by the ways in which it can be taken, a tick by its
frame. -/
theorem stepKeepsSpecInvariant : Obligations.StepKeepsSpecInvariant := by
  intro s t hs h
  obtain ⟨-, rfl⟩ | ⟨c, rest, -, hrun⟩ := step_next h
  · exact hs
  · exact runCall_specInv hrun { hs with }

/-! ## The paused flag -/

theorem runRead_paused {ev : ReadEvent} {s t : State} (h : runRead ev s = .next t) :
    t.paused = s.paused := by
  obtain rfl | ⟨e, loc, loc', out, -, rfl⟩ := runRead_next h <;> rfl

/-- No tick changes the paused flag. -/
theorem tick_paused {s t : State} (h : tick s = .next t) : t.paused = s.paused := by
  obtain ⟨-, rfl⟩ | ⟨u, ev, hu, ht⟩ := tick_next_tickFrame h
  · obtain ⟨w, out, he, -⟩ := step1Countdown_update { s with consumed := consumedZero }
    rw [he]
  · exact (runRead_paused ht).trans hu.paused

/-- A byte that pauses the output completes PAUSE outside the window (43_cmd_system.md R201). -/
theorem submit_paused {b : Byte} {s t : State} (h : submit b s = .next t) (hs : s.paused = false)
    (ht : t.paused = true) : Framing s.phase ∧
      decode (appendByte b s.frame) = .command .pause [] ∧ s.rt.inWindow = false := by
  cases submit_next h with
  | command i u framing complete run =>
    obtain hp | ⟨rfl, hw, -⟩ := exec_paused run rfl
    · exact absurd (hp.symm.trans ht) Bool.false_ne_true
    · exact ⟨framing, complete, hw⟩
  | write e loc loc' out exit executing =>
    cases exit with
    | false => exact absurd (hs.symm.trans ht) Bool.false_ne_true
    | true => exact absurd ht Bool.false_ne_true
  | unknown | waits | load | boot => exact absurd (hs.symm.trans ht) Bool.false_ne_true

/-- Settles O57: of all calls only a byte can pause the output. -/
theorem pausedIsSetOnlyByPause : Obligations.PausedIsSetOnlyByPause := by
  intro s t h hs ht
  have unchanged : t.paused ≠ s.paused := by simp [hs, ht]
  obtain ⟨-, rfl⟩ | ⟨c, rest, hc, hrun⟩ := step_next h
  · exact absurd rfl unchanged
  · cases c with
    | submit b j0 j1 =>
      obtain ⟨hf, hd, hw⟩ := submit_paused hrun hs ht
      exact ⟨⟨b, j0, j1, rest, hc, hf, hd⟩, hw⟩
    | tick inp => exact absurd (tick_paused hrun) unchanged
    | keyEvent code => exact absurd (runRead_paused hrun) unchanged
    | hwReset cold => cases hrun; exact absurd ht Bool.false_ne_true
    | hostWrite cell b => cases hrun; exact absurd rfl unchanged

/-! ## The field rules -/

theorem FieldInv.joy0_masked {s : State} (hs : FieldInv s) : s.joy0.Masked := by
  obtain ⟨hcur, hsent, -, -⟩ := hs.lanes
  exact ⟨hcur, hsent⟩

theorem FieldInv.joy1_masked {s : State} (hs : FieldInv s) : s.joy1.Masked := by
  obtain ⟨-, -, hcur, hsent⟩ := hs.lanes
  exact ⟨hcur, hsent⟩

theorem lanes_of_masked {s : State} (h0 : s.joy0.Masked) (h1 : s.joy1.Masked) :
    s.joy0.cur &&& ~~~joyMask = 0 ∧ s.joy0.sent &&& ~~~joyMask = 0 ∧
    s.joy1.cur &&& ~~~joyMask = 0 ∧ s.joy1.sent &&& ~~~joyMask = 0 :=
  ⟨h0.1, h0.2, h1.1, h1.2⟩

/-- A lane as it is after any reset. -/
theorem clearLane_masked : Lane.Masked ⟨0x00, 0x00⟩ := ⟨by decide, by decide⟩

/-- The state nibble uses bits 3..0 only (30_encoding.md R113). -/
theorem stateNibble_high (l r : Bool) : stateNibble l r &&& 0xF0 = 0 := by
  cases l <;> cases r <;> rfl

theorem Clock.bytes_all_isBcd {c : Clock} : c.bytes.all isBcd = true ↔
    isBcd c.year = true ∧ isBcd c.month = true ∧ isBcd c.day = true ∧ isBcd c.hour = true ∧
      isBcd c.minute = true ∧ isBcd c.second = true := by
  simp [Clock.bytes]

theorem clockZero_bcd : clockZero.bytes.all isBcd = true := by decide

theorem engineReset_clock_bcd {s : State} (hs : s.clock.bytes.all isBcd = true) (cold : Bool) :
    (engineReset cold s).clock.bytes.all isBcd = true := by
  cases cold with
  | false => exact hs
  | true => exact clockZero_bcd

theorem FieldInv.engineReset {s : State} (hs : FieldInv s) (cold : Bool) :
    FieldInv (engineReset cold s) where
  prev_buttons := (by decide : (0x0A : Byte) &&& 0xF0 = 0)
  lanes := lanes_of_masked clearLane_masked clearLane_masked
  clock_bcd := engineReset_clock_bcd hs.clock_bcd cold
  loading := fun _ _ _ h => nomatch h
  mem_wf := engineReset_mem_wf hs.mem_wf

/-- A load of at most 255 bytes leaves 1 to 255 of them to go, if it is under way at all. -/
theorem loadPhase_bounds {rem : Nat} {dest : Word16} {crc : Word32} (hrem : rem ≤ 255)
    (r : Nat) (d : Word16) (c : Word32) (h : loadPhase rem dest crc = .loading r d c) :
    1 ≤ r ∧ r ≤ 255 := by
  obtain ⟨rfl, hpos⟩ := loadPhase_eq_loading h
  exact ⟨hpos, hrem⟩

theorem exec_fieldInv {i : Instr} {s u : State} (h : exec i s = .next u)
    (hs : FieldInv s) : FieldInv u := by
  cases i with
  | reset m =>
    obtain rfl | rfl := exec_reset_next h
    · exact hs.engineReset false
    · exact hs
  | interrogateAbs =>
    cases h
    exact { hs with prev_buttons := stateNibble_high _ _ }
  | setClock year month day hour minute second =>
    obtain ⟨hy, hmo, hd, hh, hmi, hse⟩ := Clock.bytes_all_isBcd.1 hs.clock_bcd
    cases h
    refine { hs with clock_bcd := Clock.bytes_all_isBcd.2 ?_ }
    exact ⟨isBcd_storeBcd hy _, isBcd_storeBcd hmo _, isBcd_storeBcd hd _, isBcd_storeBcd hh _,
      isBcd_storeBcd hmi _, isBcd_storeBcd hse _⟩
  | memLoad a n =>
    cases h
    exact { hs with loading := loadPhase_bounds (Nat.le_of_lt_succ n.isLt) }
  | execute a =>
    obtain rfl | rfl := exec_execute_next h
    · exact { hs with loading := fun _ _ _ h => nomatch h }
    · exact hs
  | disablePtr =>
    obtain ⟨m, p, j, c, b, rfl⟩ := exec_disablePtr_next h
    exact { hs with }
  | disableJoy =>
    obtain ⟨m, p, j, c, b, rfl⟩ := exec_disableJoy_next h
    exact { hs with }
  | joyAuto =>
    obtain ⟨m, b, rfl⟩ := exec_joyAuto_next h
    refine { hs with lanes := lanes_of_masked ?_ ?_ }
    · exact (joySample_masked _ hs.joy0_masked).allSent
    · exact (joySample_masked _ hs.joy1_masked).allSent
  | joyQmode | joyQuery | fireMonitor | joyKeycode => exact absurd h (refuseNoHandler_ne_next _ _ _)
  | _ =>
    -- no other command writes the reported nibble, a lane, the clock, the phase or the tables
    cases h
    exact { hs with }

theorem submit_fieldInv {b : Byte} {s t : State} (h : submit b s = .next t)
    (hs : FieldInv s) : FieldInv t := by
  cases submit_next h with
  | command i u framing complete run =>
    have hu : FieldInv u := exec_fieldInv run { hs with }
    exact { hu with }
  | load rem dest crc loading =>
    obtain ⟨-, hrem⟩ := hs.loading rem dest crc loading
    exact { hs with
      loading := loadPhase_bounds ((Nat.sub_le rem 1).trans hrem)
      mem_wf := State.memWrite_wf hs.mem_wf }
  | boot crc n executing => exact { hs with loading := fun _ _ _ h => nomatch h }
  | write e loc loc' out exit executing =>
    have ht : FieldInv (State.emitR out { s with phase := .executing (.main e loc') }) :=
      { hs with loading := fun _ _ _ h => nomatch h }
    cases exit with
    | false => exact ht
    | true => exact ht.engineReset false
  | unknown | waits => exact { hs with }

theorem runRead_fieldInv {ev : ReadEvent} {s t : State} (h : runRead ev s = .next t)
    (hs : FieldInv s) : FieldInv t := by
  obtain rfl | ⟨e, loc, loc', out, -, rfl⟩ := runRead_next h
  · exact hs
  · exact { hs with loading := fun _ _ _ h => nomatch h }

theorem TickFrame.fieldInv {s t : State} (hst : TickFrame s t) (hs : FieldInv s) : FieldInv t where
  prev_buttons := hst.prevButtons ▸ hs.prev_buttons
  lanes := lanes_of_masked (hst.joy0 hs.joy0_masked) (hst.joy1 hs.joy1_masked)
  clock_bcd := hst.clock ▸ hs.clock_bcd
  loading := hst.phase ▸ hs.loading
  mem_wf := hst.mem ▸ hs.mem_wf

theorem tick_fieldInv {s t : State} (h : tick s = .next t) (hs : FieldInv s) : FieldInv t := by
  obtain ⟨-, rfl⟩ | ⟨u, ev, hu, ht⟩ := tick_next_tickFrame h
  · obtain ⟨w, out, he, -⟩ := step1Countdown_update { s with consumed := consumedZero }
    rw [he]
    exact { hs with }
  · exact runRead_fieldInv ht (hu.fieldInv hs)

theorem runCall_fieldInv {c : Call} {s t : State} (h : runCall c s = .next t)
    (hs : FieldInv s) : FieldInv t := by
  cases c with
  | submit b j0 j1 => exact submit_fieldInv h { hs with }
  | tick inp => exact tick_fieldInv h { hs with }
  | keyEvent code => exact runRead_fieldInv h { hs with }
  | hwReset cold => cases h; exact hs.engineReset cold
  | hostWrite cell b => cases h; exact { hs with mem_wf := State.tableWrite_wf hs.mem_wf }

/-- Settles O59: each call keeps the field rules and the canonical form of the tables. -/
theorem stepKeepsFieldInvariant : Obligations.StepKeepsFieldInvariant := by
  intro s t hs h
  obtain ⟨-, rfl⟩ | ⟨c, rest, -, hrun⟩ := step_next h
  · exact hs
  · exact runCall_fieldInv hrun { hs with }

end Sys2Proof.Machine
end

section
/-!
PROOFS. O34: the controller address space and the tables of the host read back what was last
written to them (20_memory.md R71, R78).
-/

namespace Sys2Proof.Machine

/-- A write to an unmapped address is discarded (20_memory.md R71). -/
theorem State.memWrite_unmapped {a : Word16} {b : Byte} {s : State} (h : memMap a = none) :
    s.memWrite a b = s := by simp [State.memWrite, h]

/-- A write to a mapped address writes its cell, as the host does between calls
(20_memory.md R71, R78). -/
theorem State.memWrite_mapped {a : Word16} {b : Byte} {s : State} {c : TableCell}
    (h : memMap a = some c) : s.memWrite a b = s.tableWrite c b := by
  simp [State.memWrite, State.tableWrite, h]

theorem TableCell.key_inj {c d : TableCell} : c.key = d.key ↔ c = d :=
  ⟨TableCell.key_injective, congrArg TableCell.key⟩

/-- Writing a cell of tables in canonical form sets that cell and no other. -/
theorem Memory.read_write_key {c d : TableCell} {b : Byte} {m : Memory} (hm : m.wf = true) :
    (m.write c.key b).read d.key = if d = c then b else m.read d.key := by
  simp only [Memory.read_write hm, TableCell.key_inj]

/-- After a cell is written, the addresses of that cell read as the byte and all others as before. -/
theorem State.memRead_tableWrite {c : TableCell} {a : Word16} {b : Byte} {s : State}
    (hs : s.mem.wf = true) :
    (s.tableWrite c b).memRead a = if memMap a = some c then b else s.memRead a := by
  cases ha : memMap a with
  | none => simp [State.memRead_unmapped ha]
  | some d => simp [State.memRead_mapped ha, Memory.read_write_key hs]

theorem State.memRead_memWrite {a a' : Word16} {b : Byte} {s : State} (hs : s.mem.wf = true) :
    (s.memWrite a b).memRead a' =
      if memMap a ≠ none ∧ memMap a' = memMap a then b else s.memRead a' := by
  cases ha : memMap a with
  | none => simp [State.memWrite_unmapped ha]
  | some c => simp [State.memWrite_mapped ha, State.memRead_tableWrite hs]

/-- The host's write is taken as a call of its own (20_memory.md R78). -/
theorem step_hostWrite {s : State} {c : TableCell} {b : Byte} {rest : List Call}
    (h : s.calls = .hostWrite c b :: rest) :
    step s = .next { s.tableWrite c b with calls := rest } := step_of_calls h

/-- Settles O34: a write through an address is a write of its cell or of nothing, and cells in
canonical form are read back one by one. -/
theorem memWriteThenMemRead : Obligations.MemWriteThenMemRead := by
  intro s a a' b hs
  refine ⟨State.memRead_memWrite hs, ⟨_, rfl⟩, fun c rest hc => ?_⟩
  exact ⟨_, step_hostWrite hc, fun d => Memory.read_write_key hs⟩

end Sys2Proof.Machine
end

section
/-!
PROOFS. O1, O2, O3, O4: the decoder and the encoder agree in both directions, and the decoder
recognizes exactly the opcodes of the command table (30_encoding.md R90 to R93, R100 to R102).
-/

namespace Sys2Proof.Machine

/-! ## What the decoder answers -/

theorem lookup_opcode {op : Byte} {e : CmdEntry} (h : lookup op = some e) : e.opcode = op := by
  simpa using List.find?_some h

/-- The decoder answers a command exactly when the bytes after the opcode begin with as many
parameters as its table entry asks for, and the entry reads these as that command (R91, R93). -/
theorem decode_cons_eq_command_iff {op : Byte} {bs rest : List Byte} {i : Instr} :
    decode (op :: bs) = .command i rest ↔
      ∃ e ps, lookup op = some e ∧ ps.length + 1 = e.totalLength ∧ e.handler ps = some i ∧
        bs = ps ++ rest := by
  constructor
  · intro h
    cases he : lookup op with
    | none => simp [decode_of_lookup_none he] at h
    | some e =>
      have hpos := (totalLength_bounds e (lookup_mem he)).1
      simp only [decode, he] at h
      split at h
      · cases h
      · split at h
        · next hlen _ hi =>
          cases h
          refine ⟨e, _, rfl, ?_, hi, (List.take_append_drop _ bs).symm⟩
          rw [List.length_take]
          omega
        · cases h
  · rintro ⟨e, ps, he, hl, hi, rfl⟩
    have hn : e.totalLength - 1 = ps.length := by omega
    have hlong : e.totalLength ≤ ps.length + rest.length + 1 := by omega
    simp [decode, he, hlong, hn, hi]

/-- The decoder rejects the first byte exactly when the table has no entry for it (R102). -/
theorem decode_cons_eq_unknownOpcode_iff {op : Byte} {bs : List Byte} :
    decode (op :: bs) = .unknownOpcode op ↔ lookup op = none := by
  refine ⟨fun h => ?_, fun h => decode_of_lookup_none h bs⟩
  cases he : lookup op with
  | none => rfl
  | some e =>
    simp only [decode, he] at h
    split at h
    · cases h
    · split at h <;> cases h

/-! ## From a command to its frame and back: one lemma per frame format of R93 -/

/-- A complete frame of a table entry, whatever follows it, is the command that the entry reads. -/
theorem decode_frame {op : Byte} {e : CmdEntry} {ps : List Byte} {i : Instr}
    (he : lookup op = some e) (hl : ps.length + 1 = e.totalLength) (hi : e.handler ps = some i)
    (rest : List Byte) : decode (op :: ps ++ rest) = .command i rest :=
  decode_cons_eq_command_iff.2 ⟨e, ps, he, hl, hi, rfl⟩

section
variable {op : Byte} (rest : List Byte)

theorem decode_formatF1 {k : Instr} (he : lookup op = some ⟨op, 1, formatF1 k⟩) :
    decode ([op] ++ rest) = .command k rest :=
  decode_frame he rfl rfl rest

theorem decode_formatF2 {k : Byte → Instr} (he : lookup op = some ⟨op, 2, formatF2 k⟩) (a : Byte) :
    decode ([op, a] ++ rest) = .command (k a) rest :=
  decode_frame he rfl rfl rest

theorem decode_formatF3 {k : Byte → Byte → Instr} (he : lookup op = some ⟨op, 3, formatF3 k⟩)
    (a b : Byte) : decode ([op, a, b] ++ rest) = .command (k a b) rest :=
  decode_frame he rfl rfl rest

theorem decode_formatF3W {k : Word16 → Instr} (he : lookup op = some ⟨op, 3, formatF3W k⟩)
    (v : Word16) : decode ([op, hiByte v, loByte v] ++ rest) = .command (k v) rest :=
  decode_frame he rfl (by simp only [formatF3W, u16_hiByte_loByte]) rest

theorem decode_formatF4W {k : Word16 → Byte → Instr}
    (he : lookup op = some ⟨op, 4, formatF4W k⟩) (v : Word16) (a : Byte) :
    decode ([op, hiByte v, loByte v, a] ++ rest) = .command (k v a) rest :=
  decode_frame he rfl (by simp only [formatF4W, u16_hiByte_loByte]) rest

theorem decode_formatF5W {k : Word16 → Word16 → Instr}
    (he : lookup op = some ⟨op, 5, formatF5W k⟩) (v w : Word16) :
    decode ([op, hiByte v, loByte v, hiByte w, loByte w] ++ rest) = .command (k v w) rest :=
  decode_frame he rfl (by simp only [formatF5W, u16_hiByte_loByte]) rest

theorem decode_formatF6W {k : Byte → Word16 → Word16 → Instr}
    (he : lookup op = some ⟨op, 6, formatF6W k⟩) (filler : Byte) (v w : Word16) :
    decode ([op, filler, hiByte v, loByte v, hiByte w, loByte w] ++ rest) =
      .command (k filler v w) rest :=
  decode_frame he rfl (by simp only [formatF6W, u16_hiByte_loByte]) rest

theorem decode_formatF7 {k : Byte → Byte → Byte → Byte → Byte → Byte → Instr}
    (he : lookup op = some ⟨op, 7, formatF7 k⟩) (a b c d e f : Byte) :
    decode ([op, a, b, c, d, e, f] ++ rest) = .command (k a b c d e f) rest :=
  decode_frame he rfl rfl rest

end

/-- Every frame decodes to its command: the commands by the format of their frames (R100). -/
theorem decode_encode_append (i : Instr) (rest : List Byte) :
    decode (encode i ++ rest) = .command i rest := by
  cases i with
  | reset | setAction | joyMonitor => exact decode_formatF2 rest rfl _
  | setKeycode | setThresh | setScale => exact decode_formatF3 rest rfl _ _
  | memRead | execute => exact decode_formatF3W rest rfl _
  | memLoad => exact decode_formatF4W rest rfl _ _
  | setAbs => exact decode_formatF5W rest rfl _ _
  | loadPos => exact decode_formatF6W rest rfl _ _ _
  | joyKeycode | setClock => exact decode_formatF7 rest rfl _ _ _ _ _ _
  | _ => exact decode_formatF1 rest rfl

/-- Settles O1: the frame of every command is a complete frame of its table entry, which reads the
parameters back. -/
theorem decodeEncodeRoundTrip : Obligations.DecodeEncodeRoundTrip :=
  fun i rest _ => decode_encode_append i rest

/-! ## From a frame to its command and back -/

/-- Parameters that the entry reads as a command are the ones that the encoder writes for it. -/
def ReadsOnlyItsFrames (e : CmdEntry) : Prop :=
  ∀ ps i, e.handler ps = some i → encode i = e.opcode :: ps

/-! Per format, this is a question about the encoder alone, since `u16` loses no bit of its bytes. -/

section
variable {op : Byte}

@[simp] theorem readsOnlyItsFrames_formatF1_iff {k : Instr} :
    ReadsOnlyItsFrames ⟨op, 1, formatF1 k⟩ ↔ encode k = [op] :=
  ⟨fun h => h [] k rfl, fun | h, [], _, rfl => h⟩

@[simp] theorem readsOnlyItsFrames_formatF2_iff {k : Byte → Instr} :
    ReadsOnlyItsFrames ⟨op, 2, formatF2 k⟩ ↔ ∀ a, encode (k a) = [op, a] :=
  ⟨fun h a => h [a] _ rfl, fun | h, [a], _, rfl => h a⟩

@[simp] theorem readsOnlyItsFrames_formatF3_iff {k : Byte → Byte → Instr} :
    ReadsOnlyItsFrames ⟨op, 3, formatF3 k⟩ ↔ ∀ a b, encode (k a b) = [op, a, b] :=
  ⟨fun h a b => h [a, b] _ rfl, fun | h, [a, b], _, rfl => h a b⟩

@[simp] theorem readsOnlyItsFrames_formatF3W_iff {k : Word16 → Instr} :
    ReadsOnlyItsFrames ⟨op, 3, formatF3W k⟩ ↔
      ∀ v, encode (k v) = [op, hiByte v, loByte v] where
  mp h v := by simpa only [u16_hiByte_loByte] using h [hiByte v, loByte v] _ rfl
  mpr
    | h, [vh, vl], _, rfl => by simp only [h, hiByte_u16, loByte_u16]

@[simp] theorem readsOnlyItsFrames_formatF4W_iff {k : Word16 → Byte → Instr} :
    ReadsOnlyItsFrames ⟨op, 4, formatF4W k⟩ ↔
      ∀ v a, encode (k v a) = [op, hiByte v, loByte v, a] where
  mp h v a := by simpa only [u16_hiByte_loByte] using h [hiByte v, loByte v, a] _ rfl
  mpr
    | h, [vh, vl, a], _, rfl => by simp only [h, hiByte_u16, loByte_u16]

@[simp] theorem readsOnlyItsFrames_formatF5W_iff {k : Word16 → Word16 → Instr} :
    ReadsOnlyItsFrames ⟨op, 5, formatF5W k⟩ ↔
      ∀ v w, encode (k v w) = [op, hiByte v, loByte v, hiByte w, loByte w] where
  mp h v w := by
    simpa only [u16_hiByte_loByte] using h [hiByte v, loByte v, hiByte w, loByte w] _ rfl
  mpr
    | h, [vh, vl, wh, wl], _, rfl => by simp only [h, hiByte_u16, loByte_u16]

@[simp] theorem readsOnlyItsFrames_formatF6W_iff {k : Byte → Word16 → Word16 → Instr} :
    ReadsOnlyItsFrames ⟨op, 6, formatF6W k⟩ ↔
      ∀ a v w, encode (k a v w) = [op, a, hiByte v, loByte v, hiByte w, loByte w] where
  mp h a v w := by
    simpa only [u16_hiByte_loByte] using h [a, hiByte v, loByte v, hiByte w, loByte w] _ rfl
  mpr
    | h, [a, vh, vl, wh, wl], _, rfl => by simp only [h, hiByte_u16, loByte_u16]

@[simp] theorem readsOnlyItsFrames_formatF7_iff
    {k : Byte → Byte → Byte → Byte → Byte → Byte → Instr} :
    ReadsOnlyItsFrames ⟨op, 7, formatF7 k⟩ ↔
      ∀ a b c d e f, encode (k a b c d e f) = [op, a, b, c, d, e, f] :=
  ⟨fun h a b c d e f => h [a, b, c, d, e, f] _ rfl,
    fun | h, [a, b, c, d, e, f], _, rfl => h a b c d e f⟩

end

/-- Row by row, the format of R100's table is the one in which the encoder writes the command. -/
theorem cmdTable_readsOnlyItsFrames : ∀ e ∈ cmdTable, ReadsOnlyItsFrames e := by
  simp [cmdTable, commandRows, reportRows, encode]

/-- Settles O2: the parameters that the decoder took are those that the encoder writes, and the
decoder hands back all that follows them. -/
theorem encodeDecodeRoundTrip : Obligations.EncodeDecodeRoundTrip := by
  intro bs i rest h
  cases bs with
  | nil => cases h
  | cons op bs =>
    obtain ⟨e, ps, he, -, hi, rfl⟩ := decode_cons_eq_command_iff.1 h
    rw [cmdTable_readsOnlyItsFrames e (lookup_mem he) ps i hi, lookup_opcode he, List.cons_append]

/-! ## The opcodes -/

theorem lookup_eq_none_iff {op : Byte} :
    lookup op = none ↔ op.toNat ∉ cmdTable.map (fun e => e.opcode.toNat) := by
  simp [lookup, List.find?_eq_none, BitVec.toNat_inj]

/-- The opcodes of R100's table in its order, as numbers. -/
theorem cmdTable_opcodes : cmdTable.map (fun e => e.opcode.toNat) =
    [0x80, 0x07, 0x08, 0x09, 0x0A, 0x0B, 0x0C, 0x0D, 0x0E, 0x0F, 0x10, 0x11, 0x12, 0x13, 0x14,
      0x15, 0x16, 0x17, 0x18, 0x19, 0x1A, 0x1B, 0x1C, 0x20, 0x21, 0x22, 0x87, 0x88, 0x89, 0x8A,
      0x8B, 0x8C, 0x8F, 0x90, 0x92, 0x94, 0x95, 0x99, 0x9A] := rfl

/-- Settles O3: a first byte is rejected when no row of the table has it, and the rows' opcodes are
the ranges and values of R101. -/
theorem onlyTheTableOpcodesAreRecognized : Obligations.OnlyTheTableOpcodesAreRecognized := by
  intro op ps
  rw [decode_cons_eq_unknownOpcode_iff, lookup_eq_none_iff, cmdTable_opcodes]
  simp only [List.mem_cons, List.not_mem_nil, or_false]
  omega

/-- Settles O4: each sample is the frame that the encoder writes for its command, the last but one
with a byte after it. -/
theorem sampleFramesDecode : Obligations.SampleFramesDecode :=
  ⟨decode_encode_append (.setAbs 639 399) [], decode_encode_append (.loadPos 0 1000 200) [],
    decode_encode_append (.joyMonitor 1) [], decode_encode_append (.joyKeycode 1 2 3 4 5 6) [],
    decode_encode_append (.reset 1) [], decode_encode_append (.memLoad 0x1000 3) [0xAA],
    decode_encode_append .qThresh []⟩

end Sys2Proof.Machine
end

section
/-!
PROOFS. O5, O7, O8: what the framer makes of one byte, stated from the decoder's answer to the step,
where the laws of the framer above go from the step's answer back to its causes (40_framer.md R130
to R137).
-/

namespace Sys2Proof.Machine

/-! ## The framer's three answers to a byte -/

@[simp] theorem clearFrame_next (s : State) :
    clearFrame (.next s) = .next { s with frame := [] } := rfl

@[simp] theorem clearFrame_refused (r : Refusal) : clearFrame (.refused r) = .refused r := rfl

theorem appendByte_of_lt {b : Byte} {frame : List Byte} (h : frame.length < Config.frameCap) :
    appendByte b frame = frame ++ [b] := if_pos h

/-- R136: a complete frame is dispatched. -/
theorem frameByte_of_command {b : Byte} {s : State} {i : Instr}
    (h : decode (appendByte b s.frame) = .command i []) :
    frameByte b s = dispatch i { s with frame := appendByte b s.frame } := by
  simp only [frameByte, h]

/-- R135: an unknown first byte empties the buffer. -/
theorem frameByte_of_unknownOpcode {b op : Byte} {s : State}
    (h : decode (appendByte b s.frame) = .unknownOpcode op) :
    frameByte b s = .next { s with frame := [] } := by
  simp only [frameByte, h]

/-- R134: an incomplete frame waits. -/
theorem frameByte_of_incomplete {b : Byte} {s : State} {n : Nat}
    (h : decode (appendByte b s.frame) = .incomplete n) :
    frameByte b s = .next { s with frame := appendByte b s.frame } := by
  simp only [frameByte, h]

/-- In a phase whose input bytes are frames, a submitted byte goes to the framer, on the state with
the call consumed and the drawn joystick registers in place (R130, R131). -/
theorem step_submit_of_framing {s : State} {b : Byte} {j0 j1 : Word16} {rest : List Call}
    (hc : s.calls = .submit b j0 j1 :: rest) (hf : Framing s.phase) :
    step s = frameByte b
      { s with calls := rest, live := { s.live with joy0 := j0, joy1 := j1 } } :=
  (step_of_calls hc).trans (submit_of_framing hf)

/-! ## The statements -/

/-- Settles O8: the handler runs with paused cleared, and of all commands only PAUSE sets it. -/
theorem recognizedCommandClearsPaused : Obligations.RecognizedCommandClearsPaused := by
  rintro s t i ⟨b, j0, j1, rest, hc, hf, hd⟩ hi h
  have hstep := (step_submit_of_framing hc hf).trans (frameByte_of_command hd)
  obtain ⟨u, run, rfl⟩ := dispatch_next (hstep.symm.trans h)
  obtain hp | ⟨rfl, -⟩ := exec_paused run rfl
  · exact hp
  · exact absurd rfl hi

/-- Settles O5: the step is the dispatch of the decoded command, which clears the frame of a next
state and hands a refusal on. -/
theorem stepRunsTheDecodedCommand : Obligations.StepRunsTheDecodedCommand := by
  rintro s _ b j0 j1 rest i hc hf hlen hd rfl
  rw [← appendByte_of_lt hlen] at hd ⊢
  have hstep := (step_submit_of_framing hc hf).trans (frameByte_of_command hd)
  refine ⟨fun t ht => ?_, fun r hr => ?_⟩
  · rw [hstep, dispatch, ht, clearFrame_next]
  · rw [hstep, dispatch, hr, clearFrame_refused]

/-- Settles O7: with an empty buffer, clearing it after an unknown byte restores the buffer that
stood before it. -/
theorem framerDropsOrWaits : Obligations.FramerDropsOrWaits := by
  intro s b j0 j1 rest hc hf
  have hstep := step_submit_of_framing hc hf
  refine ⟨fun hnil hd => ?_, fun n hlen hd => ?_⟩
  · have hd' : decode (appendByte b s.frame) = .unknownOpcode b := by rw [hnil]; exact hd
    rw [hstep.trans (frameByte_of_unknownOpcode hd'), hnil]
  · rw [← appendByte_of_lt hlen] at hd ⊢
    exact hstep.trans (frameByte_of_incomplete hd)

end Sys2Proof.Machine
end

section
/-!
PROOFS. O10 to O17, O22: the pointer commands (41_cmd_pointer.md R150 to R162), from one equation
for each operation on a byte, a coordinate, the window's note and the dual-disable check.
-/

namespace Sys2Proof.Machine

/-! ## Bytes and coordinates -/

theorem max1_eq_ite (v : Byte) : max1 v = if v.toNat = 0 then 1 else v := by
  have hzero : v = 0 ↔ v.toNat = 0 := BitVec.toNat_inj.symm
  simp only [max1, hzero]

theorem minCoord_eq_ite (a b : Word16) :
    minCoord a b = if b.toNat < a.toNat then b else a := by
  simp only [minCoord, ← not_lt, ite_not]

/-- A coordinate is never negative, so clamping it is taking the smaller of it and the bound. -/
theorem clampCoord_toNat_eq_minCoord (v hi : Word16) : clampCoord v.toNat hi = minCoord v hi := by
  apply BitVec.eq_of_toNat_eq
  have h := clampCoord_toNat v.toNat hi
  simp only [clamp] at h
  simp only [minCoord]
  split <;> omega

/-- 30_encoding.md R113, with either source of each button written out. -/
theorem stateNibble_down (l r : Button) :
    stateNibble l.down r.down =
      ((if r.ptr ∨ r.joy then 0x01 else 0x02) ||| (if l.ptr ∨ l.joy then 0x04 else 0x08)) := by
  simp only [stateNibble, Button.down, Bool.or_eq_true]

/-! ## The critical window -/

/-- 41_cmd_pointer.md R153. -/
theorem notePtrChange_eq (s : State) :
    notePtrChange s = { s with rt := { s.rt with
      ptrChangedInWindow := if s.rt.inWindow then true else s.rt.ptrChangedInWindow } } := by
  simp only [notePtrChange, Bool.if_true_left, Bool.decide_eq_true, Bool.or_comm]

/-- 41_cmd_pointer.md R162, when the check finds nothing to do. -/
theorem dualDisableCheck_eq_self {s : State}
    (h : ¬ (s.rt.ptrDisabled = true ∧ s.rt.joyDisabled = true ∧ s.rt.inWindow = true)) :
    dualDisableCheck s = s := by
  obtain ⟨hu, -⟩ | ⟨-, hall⟩ := dualDisableCheck_cases s
  · exact hu
  · exact absurd hall h

/-- 41_cmd_pointer.md R162, when the check enables both devices again. -/
theorem dualDisableCheck_reenables {s : State} (hp : s.rt.ptrDisabled = true)
    (hj : s.rt.joyDisabled = true) (hw : s.rt.inWindow = true) :
    dualDisableCheck s =
      { s with mode := ⟨.relative, .auto⟩, rt := { s.rt with both := true } } := by
  obtain ⟨-, hnot⟩ | ⟨hu, -⟩ := dualDisableCheck_cases s
  · exact absurd ⟨hp, hj, hw⟩ hnot
  · exact hu

theorem dualDisableCheck_of_outside {s : State} (hw : s.rt.inWindow = false) :
    dualDisableCheck s = s :=
  dualDisableCheck_eq_self (by simp [hw])

@[simp] theorem dualDisableCheck_inWindow (s : State) :
    (dualDisableCheck s).rt.inWindow = s.rt.inWindow := by
  obtain ⟨_, _, h⟩ := dualDisableCheck_update (s := s) rfl
  rw [h]

@[simp] theorem dualDisableCheck_ptrDisabled (s : State) :
    (dualDisableCheck s).rt.ptrDisabled = s.rt.ptrDisabled := by
  obtain ⟨_, _, h⟩ := dualDisableCheck_update (s := s) rfl
  rw [h]

@[simp] theorem dualDisableCheck_joyDisabled (s : State) :
    (dualDisableCheck s).rt.joyDisabled = s.rt.joyDisabled := by
  obtain ⟨_, _, h⟩ := dualDisableCheck_update (s := s) rfl
  rw [h]

/-! ## The two disables: what each writes, then the dual-disable check -/

/-- What DISABLE_PTR writes before its check (41_cmd_pointer.md R161, R153). -/
def pointerOff (s : State) : State :=
  { s with
    mode := ⟨.off, s.mode.joystick⟩
    rt   := { s.rt with
      ptrDisabled := true
      ptrChangedInWindow := if s.rt.inWindow then true else s.rt.ptrChangedInWindow } }

/-- What DISABLE_JOY writes before its check (42_cmd_joystick.md R187). -/
def joystickOff (s : State) : State :=
  { s with mode := ⟨s.mode.pointer, .off⟩, rt := { s.rt with joyDisabled := true } }

theorem exec_disablePtr_eq (s : State) :
    exec .disablePtr s = .next (dualDisableCheck (pointerOff s)) := by
  simp only [exec, execDisablePtr, notePtrChange_eq, pointerOff]

theorem exec_disableJoy_eq (s : State) :
    exec .disableJoy s = .next (dualDisableCheck (joystickOff s)) := rfl

@[simp] theorem pointerOff_mode (s : State) : (pointerOff s).mode = ⟨.off, s.mode.joystick⟩ := rfl

@[simp] theorem pointerOff_both (s : State) : (pointerOff s).rt.both = s.rt.both := rfl

@[simp] theorem pointerOff_inWindow (s : State) :
    (pointerOff s).rt.inWindow = s.rt.inWindow := rfl

@[simp] theorem pointerOff_ptrDisabled (s : State) : (pointerOff s).rt.ptrDisabled = true := rfl

@[simp] theorem pointerOff_joyDisabled (s : State) :
    (pointerOff s).rt.joyDisabled = s.rt.joyDisabled := rfl

@[simp] theorem joystickOff_mode (s : State) :
    (joystickOff s).mode = ⟨s.mode.pointer, .off⟩ := rfl

@[simp] theorem joystickOff_both (s : State) : (joystickOff s).rt.both = s.rt.both := rfl

@[simp] theorem joystickOff_inWindow (s : State) :
    (joystickOff s).rt.inWindow = s.rt.inWindow := rfl

@[simp] theorem joystickOff_ptrDisabled (s : State) :
    (joystickOff s).rt.ptrDisabled = s.rt.ptrDisabled := rfl

@[simp] theorem joystickOff_joyDisabled (s : State) :
    (joystickOff s).rt.joyDisabled = true := rfl

/-- The check at the second of two disables, whichever came first: `v` is the state it looks at. -/
theorem dualDisableCheck_of_both_disabled {s v : State} (hw : v.rt.inWindow = s.rt.inWindow)
    (hp : v.rt.ptrDisabled = true) (hj : v.rt.joyDisabled = true)
    (hout : s.rt.inWindow = false → v.mode = ⟨.off, .off⟩ ∧ v.rt.both = s.rt.both) :
    (s.rt.inWindow = true →
      (dualDisableCheck v).mode = ⟨.relative, .auto⟩ ∧ (dualDisableCheck v).rt.both = true) ∧
    (s.rt.inWindow = false →
      (dualDisableCheck v).mode = ⟨.off, .off⟩ ∧ (dualDisableCheck v).rt.both = s.rt.both) ∧
    (dualDisableCheck v).rt.ptrDisabled = true ∧ (dualDisableCheck v).rt.joyDisabled = true := by
  refine ⟨fun h => ?_, fun h => ?_, (dualDisableCheck_ptrDisabled v).trans hp,
    (dualDisableCheck_joyDisabled v).trans hj⟩
  · rw [dualDisableCheck_reenables hp hj (hw.trans h)]
    exact ⟨rfl, rfl⟩
  · rw [dualDisableCheck_of_outside (hw.trans h)]
    exact hout h

/-! ## The statements -/

/-- Settles O22: the check of the second disable finds both sticky flags set, and outside the window
the check of the first has changed nothing. -/
theorem bothDisablesInTheWindowReenableBoth : Obligations.BothDisablesInTheWindowReenableBoth := by
  rintro s t u i j (⟨rfl, rfl⟩ | ⟨rfl, rfl⟩) hi hj
  · cases (exec_disablePtr_eq s).symm.trans hi
    cases (exec_disableJoy_eq _).symm.trans hj
    exact dualDisableCheck_of_both_disabled (by simp) (by simp) (by simp)
      fun hw => by simp [dualDisableCheck_of_outside, hw]
  · cases (exec_disableJoy_eq s).symm.trans hi
    cases (exec_disablePtr_eq _).symm.trans hj
    exact dualDisableCheck_of_both_disabled (by simp) (by simp) (by simp)
      fun hw => by simp [dualDisableCheck_of_outside, hw]

/-- Settles O10: both handlers are one field update. -/
theorem setActionAndSetScaleStoreTheirBytes : Obligations.SetActionAndSetScaleStoreTheirBytes :=
  fun _ _ _ => ⟨rfl, rfl, rfl, rfl⟩

/-- Settles O11, by the equation of `max1`. -/
theorem setThreshStoresAtLeastOne : Obligations.SetThreshStoresAtLeastOne := by
  refine fun s a b => ⟨rfl, ?_⟩
  simp only [exec, execSetThresh, max1_eq_ite]

/-- Settles O12: the two directions are `bottom` and `top`. -/
theorem yAxisCommandsSetTheDirection : Obligations.YAxisCommandsSetTheDirection :=
  fun _ => ⟨rfl, rfl, ⟨.bottom, rfl, rfl⟩, ⟨.top, rfl, rfl⟩⟩

/-- Settles O13: both handlers end in the window's note. -/
theorem setRelAndSetKeycodeSelectTheirModes : Obligations.SetRelAndSetKeycodeSelectTheirModes := by
  rintro s a b _ rfl
  exact ⟨rfl, rfl, congrArg Host.Outcome.next (notePtrChange_eq _),
    congrArg Host.Outcome.next (notePtrChange_eq _)⟩

/-- Settles O14: the window's note on a state whose position is the smaller coordinates. -/
theorem setAbsStoresMaximaAndClamps : Obligations.SetAbsStoresMaximaAndClamps := by
  refine fun s mx my => ⟨rfl, ?_⟩
  simp only [exec, execSetAbs, notePtrChange_eq, minCoord_eq_ite]

/-- Settles O15: clamping a coordinate is taking the smaller of it and the maximum. -/
theorem loadPosClampsToTheMaxima : Obligations.LoadPosClampsToTheMaxima := by
  refine fun s filler x y => ⟨rfl, ?_⟩
  simp only [exec, execLoadPos, clampCoord_toNat_eq_minCoord, minCoord_eq_ite]

/-- Settles O16: the handler's state nibble is the one of the statement. -/
theorem interrogateAbsReportsEdgesAndPosition :
    Obligations.InterrogateAbsReportsEdgesAndPosition := by
  rintro s _ rfl
  rw [← stateNibble_down]
  exact ⟨rfl, rfl⟩

/-- Settles O17: the check sees the pointer disabled, so the joystick's flag and the window decide
it. -/
theorem disablePtrAndTheDualDisableQuirk : Obligations.DisablePtrAndTheDualDisableQuirk := by
  refine fun s => ⟨rfl, fun h => ?_, fun hj hw => ?_⟩
  · rw [exec_disablePtr_eq, dualDisableCheck_eq_self (s := pointerOff s) fun ⟨_, hjw⟩ => h hjw]
    rfl
  · rw [exec_disablePtr_eq, dualDisableCheck_reenables (pointerOff_ptrDisabled s) hj hw]
    simp [pointerOff, hw]

end Sys2Proof.Machine
end

section
/-!
PROOFS. O18 to O21: the joystick commands (42_cmd_joystick.md R180 to R187), from one equation for
each operation that they call: the sample-and-send, the force-enable and the refusal.
-/

namespace Sys2Proof.Machine

/-! ## Sampling and sending -/

/-- R182: each lane's packet compares its new sample with the mask sent before, and then the sample
is the lane's current and sent mask whether or not the packet was due. -/
theorem sampleAndSend_eq (s : State) :
    sampleAndSend s = { s with
      joy0 := ⟨joySample s.live.joy0, joySample s.live.joy0⟩
      joy1 := ⟨joySample s.live.joy1, joySample s.live.joy1⟩
      out  := s.out ++ (lanePacket hdrJoy0 ⟨joySample s.live.joy0, s.joy0.sent⟩ ++
                        lanePacket hdrJoy1 ⟨joySample s.live.joy1, s.joy1.sent⟩) } := rfl

/-! ## The force-enable of JOY_AUTO -/

/-- R180, with the condition of the force-enable moved to the two fields that it writes. -/
theorem joyAutoQuirk_eq (s : State) :
    joyAutoQuirk s = { s with
      mode := ⟨if s.rt.inWindow ∧ s.rt.ptrChangedInWindow then .relative else s.mode.pointer,
        s.mode.joystick⟩
      rt   := { s.rt with
        both := if s.rt.inWindow ∧ s.rt.ptrChangedInWindow then true else s.rt.both } } := by
  obtain ⟨hu, hout⟩ | ⟨hu, hin⟩ := joyAutoQuirk_cases s
  · simp only [hu, if_neg hout]
  · simp only [hu, if_pos hin]

/-! ## Refusal -/

/-- R183 to R186: the refusal carries the state without its frame and with the mark set
(notes/assumptions/7.md). -/
theorem refuseNoHandler_eq (op : Byte) (s : State) :
    refuseNoHandler op s = .refused (.noSourceHandler op
      { s with frame := [], refused := some (.noSourceHandler op) }) := rfl

/-! ## The statements -/

/-- Settles O18: the force-enable leaves the lanes, their registers and the output alone, so the
sample-and-send reports what it would without it. -/
theorem joyAutoSamplesAndSends : Obligations.JoyAutoSamplesAndSends := by
  rintro s _ _ rfl rfl
  refine ⟨rfl, ?_⟩
  simp only [exec, execJoyAuto, joyAutoQuirk_eq, sampleAndSend_eq, lanePacket, hdrJoy0, hdrJoy1,
    List.append_assoc]

/-- Settles O19: the handler is one field update, in which the rate does not occur. -/
theorem joyMonitorSelectsMonitoring : Obligations.JoyMonitorSelectsMonitoring :=
  fun _ _ => ⟨rfl, rfl⟩

/-- Settles O20: the check sees the joystick disabled, so the pointer's flag and the window decide
it. -/
theorem disableJoyAndTheDualDisableQuirk : Obligations.DisableJoyAndTheDualDisableQuirk := by
  refine fun s => ⟨rfl, fun h => ?_, fun hp hw => ?_⟩
  · rw [exec_disableJoy_eq,
      dualDisableCheck_eq_self (s := joystickOff s) fun ⟨hp, _, hw⟩ => h ⟨hp, hw⟩]
    rfl
  · rw [exec_disableJoy_eq,
      dualDisableCheck_reenables (s := joystickOff s) hp (joystickOff_joyDisabled s) hw]
    rfl

/-- Settles O21: each of the four handlers is the refusal of its own opcode. -/
theorem commandsWithoutHandlerRefuse : Obligations.CommandsWithoutHandlerRefuse :=
  fun s _ _ _ _ _ _ => ⟨rfl, rfl, rfl, rfl, refuseNoHandler_eq 0x15 s, refuseNoHandler_eq 0x16 s,
    refuseNoHandler_eq 0x18 s, refuseNoHandler_eq 0x19 s⟩

end Sys2Proof.Machine
end

section
/-!
PROOFS. O23 to O29: the system, clock and memory commands (43_cmd_system.md R200 to R207), from one
equation for each operation on a clock byte, an address and the phase.
-/

namespace Sys2Proof.Machine

/-! ## The clock -/

/-- R203: the two halves of a byte decide whether it is stored. -/
theorem storeBcd_eq_ite (old new : Byte) :
    storeBcd old new = if new.toNat / 16 ≤ 9 ∧ new.toNat % 16 ≤ 9 then new else old := by
  simp only [storeBcd, isBcd, Bool.and_eq_true, decide_eq_true_eq]

theorem storeBcd_of_bcd {new : Byte} (h : new.toNat / 16 ≤ 9 ∧ new.toNat % 16 ≤ 9) (old : Byte) :
    storeBcd old new = new := by
  rw [storeBcd_eq_ite, if_pos h]

theorem exec_setClock_eq (a b c d e f : Byte) (s : State) :
    exec (.setClock a b c d e f) s = .next { s with clock :=
      ⟨storeBcd s.clock.year a, storeBcd s.clock.month b, storeBcd s.clock.day c,
        storeBcd s.clock.hour d, storeBcd s.clock.minute e, storeBcd s.clock.second f⟩ } := rfl

/-- R204, in the packet of 30_encoding.md R114. -/
theorem exec_readClock_eq (s : State) :
    exec .readClock s = .next { s with out := s.out ++ [0xFC, s.clock.year, s.clock.month,
      s.clock.day, s.clock.hour, s.clock.minute, s.clock.second] } := rfl

/-- Six BCD bytes replace the whole clock, whatever it held. -/
theorem exec_setClock_of_bcd {a b c d e f : Byte}
    (h : ∀ v ∈ [a, b, c, d, e, f], v.toNat / 16 ≤ 9 ∧ v.toNat % 16 ≤ 9) (s : State) :
    exec (.setClock a b c d e f) s = .next { s with clock := ⟨a, b, c, d, e, f⟩ } := by
  simp only [List.forall_mem_cons] at h
  obtain ⟨ha, hb, hc, hd, he, hf, -⟩ := h
  simp only [exec_setClock_eq, storeBcd_of_bcd, ha, hb, hc, hd, he, hf, and_self]

/-! ## The controller address space -/

/-- 20_memory.md R71: the two kinds of address in one equation. -/
theorem State.memRead_eq_elim (s : State) (a : Word16) :
    s.memRead a = (memMap a).elim 0 (fun c => s.mem.read c.key) := by
  cases h : memMap a with
  | none => exact State.memRead_unmapped h
  | some c => exact State.memRead_mapped h

/-! ## Loading and executing -/

theorem exec_execute_of_bootMatched {s : State} {e : EntryIndex} (h : s.phase = .bootMatched e)
    (a : Word16) : exec (.execute a) s = .next (enterExecuting s) := by
  simp only [exec, execExecute, h]

theorem exec_execute_of_not_bootMatched {s : State} (h : ∀ e, s.phase ≠ .bootMatched e)
    (a : Word16) : exec (.execute a) s = .next s := by
  cases hp : s.phase with
  | bootMatched e => exact absurd hp (h e)
  | standard | loading | executing => simp only [exec, execExecute, hp]

theorem loadPhase_of_pos {rem : Nat} (h : 0 < rem) (dest : Word16) (crc : Word32) :
    loadPhase rem dest crc = .loading rem dest crc := by
  obtain ⟨h0, -⟩ | ⟨-, hp⟩ := loadPhase_cases rem dest crc
  · exact absurd h0 h.ne'
  · exact hp

theorem exec_memLoad_eq (a : Word16) (n : Byte) (s : State) :
    exec (.memLoad a n) s = .next { s with phase := loadPhase n.toNat a crcSeed } := rfl

/-! ## The statements -/

/-- Settles O23: the magic byte runs the warm reset, and only the magic byte does. -/
theorem resetCommandNeedsTheMagicByte : Obligations.ResetCommandNeedsTheMagicByte := by
  refine fun s m => ⟨rfl, fun hm => ?_, rfl⟩
  have hmagic : m ≠ resetMagic := hm
  simp only [exec, execReset, if_neg hmagic]

/-- Settles O24: the window decides the one field that PAUSE writes. -/
theorem pauseOutsideTheWindowAndResume : Obligations.PauseOutsideTheWindowAndResume := by
  refine fun s => ⟨rfl, rfl, fun hout => ?_, fun hin => ?_, rfl⟩
  · simp [exec, execPause, hout]
  · simp only [exec, execPause, if_pos hin]

/-- Settles O25: the statement's rule for one byte is `storeBcd`. -/
theorem clockBytesAreStoredOneByOne : Obligations.ClockBytesAreStoredOneByOne := by
  intro s a b c d e f keep hkeep
  obtain rfl : keep = storeBcd := funext₂ fun old new =>
    (hkeep old new).trans (storeBcd_eq_ite old new).symm
  exact ⟨rfl, rfl, exec_setClock_eq a b c d e f s, exec_readClock_eq s⟩

/-- Settles O26: READ_CLOCK after SET_CLOCK finds all six bytes stored. -/
theorem clockRoundTrip : Obligations.ClockRoundTrip := by
  intro s t u a b c d e f hbcd hset hread
  cases (exec_setClock_of_bcd hbcd s).symm.trans hset
  cases (exec_readClock_eq _).symm.trans hread
  rfl

/-- Settles O27: one emission of the six bytes that the resolver reads. -/
theorem memReadSendsSixBytes : Obligations.MemReadSendsSixBytes :=
  fun s _ => ⟨rfl, rfl, s.memRead_eq_elim⟩

/-- Settles O28: the phase decides; the address does not occur. -/
theorem executeNeedsAMatchedLoad : Obligations.ExecuteNeedsAMatchedLoad :=
  fun _ a => ⟨rfl, fun _ hp => exec_execute_of_bootMatched hp a,
    fun hp => exec_execute_of_not_bootMatched hp a⟩

/-- Settles O29: the phase that the handler sets is chosen by whether the count is positive. -/
theorem memLoadStartsALoad : Obligations.MemLoadStartsALoad := by
  refine fun s a n => ⟨rfl, fun hn => ?_, rfl⟩
  have hpos : 0 < n.toNat := Nat.pos_of_ne_zero (BitVec.toNat_inj.not.2 hn)
  rw [exec_memLoad_eq, loadPhase_of_pos hpos, crcSeed]

end Sys2Proof.Machine
end

section
/-!
PROOFS. O30 to O33: the report commands (44_cmd_report.md R230 to R245), from one equation for the
report and one for the packet of each payload that depends on the state.
-/

namespace Sys2Proof.Machine

/-! ## The report and its packets -/

/-- R230: a report writes the output stream and nothing else. -/
theorem report_eq (p : List Byte) (s : State) :
    report p s = { s with out := s.out ++ reportPacket p } := rfl

/-- R244: the opcode that sets the pointer mode, its parameters as stored, and zeros. -/
theorem reportPacket_ptrModePayload (s : State) :
    reportPacket (ptrModePayload s) =
      if s.mode.pointer = .relative then [0xF6, 0x08, 0, 0, 0, 0, 0, 0]
      else if s.mode.pointer = .absolute then
        [0xF6, 0x09, s.abs.maxX.extractLsb' 8 8, s.abs.maxX.extractLsb' 0 8,
          s.abs.maxY.extractLsb' 8 8, s.abs.maxY.extractLsb' 0 8, 0, 0]
      else if s.mode.pointer = .cursorKeys then
        [0xF6, 0x0A, s.rel.keyDx, s.rel.keyDy, 0, 0, 0, 0]
      else [0xF6, 0x12, 0, 0, 0, 0, 0, 0] := by
  unfold ptrModePayload
  cases s.mode.pointer with
  | off | relative | absolute | cursorKeys => rfl

/-- R245: the rate byte that Monitoring adds is 0, so it is one more zero of the packet. -/
theorem reportPacket_joyModePayload (s : State) :
    reportPacket (joyModePayload s) =
      [0xF6, if s.mode.joystick = .auto then 0x14 else if s.mode.joystick = .monitoring then 0x17
        else 0x1A, 0, 0, 0, 0, 0, 0] := by
  unfold joyModePayload
  cases s.mode.joystick with
  | off | auto | monitoring => rfl

/-- R237, R238: `bottom` is the direction of sign -1. -/
theorem reportPacket_yAxisPayload (s : State) :
    reportPacket (yAxisPayload s) =
      [0xF6, if s.rel.yAxis.sign = -1 then 0x0F else 0x10, 0, 0, 0, 0, 0, 0] := by
  unfold yAxisPayload
  cases s.rel.yAxis with
  | top | bottom => rfl

/-! ## The inquiries that share a payload -/

theorem exec_ptrModeInquiry {i : Instr} (h : i = .qPtrmode88 ∨ i = .qPtrmode89 ∨ i = .qPtrmode8A)
    (s : State) : exec i s = .next (report (ptrModePayload s) s) := by
  obtain rfl | rfl | rfl := h <;> rfl

theorem exec_joyModeInquiry {i : Instr} (h : i = .qJoymode94 ∨ i = .qJoymode95 ∨ i = .qJoymode99)
    (s : State) : exec i s = .next (report (joyModePayload s) s) := by
  obtain rfl | rfl | rfl := h <;> rfl

theorem exec_yAxisInquiry {i : Instr} (h : i = .qYaxis8F ∨ i = .qYaxis90) (s : State) :
    exec i s = .next (report (yAxisPayload s) s) := by
  obtain rfl | rfl := h <;> rfl

/-! ## The statements -/

/-- Settles O30: each payload is the stored bytes, whose number fixes the padding. -/
theorem reportsOfStoredBytes : Obligations.ReportsOfStoredBytes :=
  fun s => ⟨rfl, rfl, rfl, congrArg Host.Outcome.next (report_eq [0x07, s.rel.action] s),
    congrArg Host.Outcome.next (report_eq [0x0B, s.rel.xThr, s.rel.yThr] s),
    congrArg Host.Outcome.next (report_eq [0x0C, s.rel.xScale, s.rel.yScale] s)⟩

/-- Settles O31: the three inquiries report one payload, chosen by the current mode. -/
theorem reportsOfThePointerMode : Obligations.ReportsOfThePointerMode := by
  refine fun s i => ⟨rfl, rfl, rfl, fun hi => ?_⟩
  rw [exec_ptrModeInquiry hi, report_eq, reportPacket_ptrModePayload]

/-- Settles O32: the three inquiries report one payload, chosen by the current mode. -/
theorem reportsOfTheJoystickMode : Obligations.ReportsOfTheJoystickMode := by
  refine fun s i => ⟨rfl, rfl, rfl, fun hi => ?_⟩
  rw [exec_joyModeInquiry hi, report_eq, reportPacket_joyModePayload]

/-- Settles O33: the two availability payloads are already a choice by the current mode. -/
theorem reportsOfYAxisAndAvailability : Obligations.ReportsOfYAxisAndAvailability := by
  refine fun s i => ⟨rfl, rfl, rfl, rfl, fun hi => ?_,
    congrArg Host.Outcome.next (report_eq (ptrAvailPayload s) s),
    congrArg Host.Outcome.next (report_eq (joyAvailPayload s) s)⟩
  rw [exec_yAxisInquiry hi, report_eq, reportPacket_yAxisPayload]

end Sys2Proof.Machine
end

section
/-!
PROOFS. O35 to O39: the custom-program layer (45_custom_program.md R260 to R271). The checksum and
the registry lookups come first, then one submitted byte while a load or a program is under way,
then the whole load, the write handler's answer and the ways out of phase Executing.
-/

namespace Sys2Proof.Machine

/-! ## The checksum (R260) -/

theorem crcRound_eq_ite (c : Word32) :
    crcRound c = if c.getLsbD 31 then (c <<< 1) ^^^ 0x04C11DB7 else c <<< 1 := by
  rw [crcRound, BitVec.msb_eq_getLsbD_last]

theorem crcRounds_eq_iterate (n : Nat) (c : Word32) : crcRounds n c = crcRound^[n] c := by
  induction n generalizing c with
  | zero => rfl
  | succ n ih => exact ih (crcRound c)

theorem crcByte_eq_iterate (c : Word32) (b : Byte) :
    crcByte c b = crcRound^[8] (c ^^^ (BitVec.ofNat 32 b.toNat <<< 24)) := by
  rw [crcByte, crcRounds_eq_iterate, BitVec.ofNat_toNat]

/-! ## The registry lookups (R261, R265) -/

/-- A search through the registry's entries is the search through its indices in order. -/
theorem find?_entries (p : EntryIndex → Bool) : entries.find? p = Fin.find? p :=
  Fin.find?_eq_find?_finRange.symm

theorem loadMatch_eq_some_iff {crc : Word32} {e : EntryIndex} :
    loadMatch crc = some e ↔
      (registry e).loadCrc = crc ∧ ∀ d, d < e → (registry d).loadCrc ≠ crc := by
  rw [loadMatch, find?_entries, Fin.find?_eq_some_iff]
  simp only [beq_iff_eq, beq_eq_false_iff_ne]

theorem loadMatch_eq_none_iff {crc : Word32} :
    loadMatch crc = none ↔ ∀ e, (registry e).loadCrc ≠ crc := by
  rw [loadMatch, find?_entries, Fin.find?_eq_none_iff]
  simp only [beq_eq_false_iff_ne]

theorem mainMatch_eq_some_iff {count : Nat} {crc : Word32} {e : EntryIndex} :
    mainMatch count crc = some e ↔
      ((registry e).mainLen = count ∧ (registry e).mainCrc = crc) ∧
      ∀ d, d < e → ¬ ((registry d).mainLen = count ∧ (registry d).mainCrc = crc) := by
  rw [mainMatch, find?_entries, Fin.find?_eq_some_iff]
  simp only [← Bool.not_eq_true, Bool.and_eq_true, beq_iff_eq]

theorem mainMatch_eq_none_iff {count : Nat} {crc : Word32} :
    mainMatch count crc = none ↔
      ∀ e, ¬ ((registry e).mainLen = count ∧ (registry e).mainCrc = crc) := by
  rw [mainMatch, find?_entries, Fin.find?_eq_none_iff]
  simp only [← Bool.not_eq_true, Bool.and_eq_true, beq_iff_eq]

theorem loadComplete_eq_elim (crc : Word32) :
    loadComplete crc = (loadMatch crc).elim .standard .bootMatched := by
  unfold loadComplete
  cases loadMatch crc with
  | none | some e => rfl

theorem bootStage_eq_elim (crc : Word32) (count : Nat) (b : Byte) :
    bootStage crc count b = (mainMatch (count + 1) (crcByte crc b)).elim
      (.boot (crcByte crc b) (count + 1)) (fun e => .main e (registry e).init) := by
  unfold bootStage
  cases mainMatch (count + 1) (crcByte crc b) with
  | none | some e => rfl

/-! ## One submitted byte outside the framing phases -/

theorem submit_of_loading {b : Byte} {s : State} {rem : Nat} {dest : Word16} {crc : Word32}
    (h : s.phase = .loading rem dest crc) : submit b s = .next (loaderByte rem dest crc b s) := by
  simp only [submit, h]

theorem submit_of_executing {b : Byte} {s : State} {st : ExecStage}
    (h : s.phase = .executing st) : submit b s = writeHandlerByte st b s := by
  simp only [submit, h]

/-- R261: the step of one byte of load data, for every number of bytes to go. -/
theorem step_submit_of_loading {s : State} {b : Byte} {j0 j1 : Word16} {rest : List Call}
    {rem : Nat} {dest : Word16} {crc : Word32} (hc : s.calls = .submit b j0 j1 :: rest)
    (hp : s.phase = .loading rem dest crc) :
    step s = .next { s with
      calls := rest
      live  := { s.live with joy0 := j0, joy1 := j1 }
      mem   := (s.memWrite dest b).mem
      phase := loadPhase (rem - 1) (dest + 1) (crcByte crc b) } :=
  (step_of_calls hc).trans (submit_of_loading hp)

/-- R263: the step of one byte while a program is under way. -/
theorem step_submit_of_executing {s : State} {b : Byte} {j0 j1 : Word16} {rest : List Call}
    {st : ExecStage} (hc : s.calls = .submit b j0 j1 :: rest) (hp : s.phase = .executing st) :
    step s = writeHandlerByte st b
      { s with calls := rest, live := { s.live with joy0 := j0, joy1 := j1 } } :=
  (step_of_calls hc).trans (submit_of_executing hp)

/-! ## A whole load -/

/-- The state after `bs` are written to consecutive addresses from `dest` (20_memory.md R72). -/
def memWrites (dest : Word16) (bs : List Byte) (s : State) : State :=
  (bs.foldl (fun (p : Word16 × State) b => (p.1 + 1, p.2.memWrite p.1 b)) (dest, s)).2

theorem memWrites_nil (dest : Word16) (s : State) : memWrites dest [] s = s := rfl

theorem memWrites_cons (dest : Word16) (b : Byte) (bs : List Byte) (s : State) :
    memWrites dest (b :: bs) s = memWrites (dest + 1) bs (s.memWrite dest b) := rfl

/-- What the tables hold after writes depends on what they held before, and on nothing else of the
state. -/
theorem memWrites_mem_congr {s t : State} (h : s.mem = t.mem) (dest : Word16) (bs : List Byte) :
    (memWrites dest bs s).mem = (memWrites dest bs t).mem := by
  induction bs generalizing dest s t with
  | nil => simpa only [memWrites_nil] using h
  | cons b bs ih => exact ih (by simp only [State.memWrite, h]) (dest + 1)

theorem run_succ_of_step {s t : State} (h : step s = .next t) (k : Nat) :
    Host.Core.run core (k + 1) s = Host.Core.run core k t := by
  have hcore : core.step s = .next t := h
  simp only [Host.Core.run, hcore]

/-- R261: a load of at least one byte, run to its end. -/
theorem run_load (b : Byte) (bs : List Byte) {s : State} {j0 j1 : Word16} {dest : Word16}
    {crc : Word32} (hp : s.phase = .loading (bs.length + 1) dest crc)
    (hc : s.calls = (b :: bs).map (fun b => .submit b j0 j1)) :
    Host.Core.run core (bs.length + 1) s = .next { s with
      calls := []
      live  := { s.live with joy0 := j0, joy1 := j1 }
      mem   := (memWrites dest (b :: bs) s).mem
      phase := loadComplete ((b :: bs).foldl crcByte crc) } := by
  induction bs generalizing b s dest crc with
  | nil => exact run_succ_of_step (step_submit_of_loading hc hp) 0
  | cons b' bs ih =>
    rw [run_succ_of_step (step_submit_of_loading hc hp), List.length_cons,
      ih b' (loadPhase_of_pos (Nat.succ_pos _) _ _) rfl]
    rw [memWrites_cons dest b, List.foldl_cons, memWrites_mem_congr (t := s.memWrite dest b)]
    · rfl
    · rfl

/-! ## The write handler's answer (R267) -/

theorem mainWrite_of_done {e : EntryIndex} {loc loc' : LocalState} {b : Byte} {out : List Byte}
    {exit : Bool} {s : State}
    (h : (registry e).write loc b s.view s.memRead = .done loc' out exit) :
    mainWrite e loc b s = .next (mainWriteDone e loc' out exit s) := by
  simp only [mainWrite, h]

theorem mainWrite_of_refuse {e : EntryIndex} {loc : LocalState} {b : Byte} {code : Nat} {s : State}
    (h : (registry e).write loc b s.view s.memRead = .refuse code) :
    mainWrite e loc b s = refuseCustom e code s := by
  simp only [mainWrite, h]

/-- R270: the program's exit is what the RESET command with its magic byte does. -/
theorem next_mainWriteDone (e : EntryIndex) (loc : LocalState) (out : List Byte) (exit : Bool)
    (s : State) :
    Host.Outcome.next (mainWriteDone e loc out exit s) =
      (if exit then exec (.reset 0x01) else Host.Outcome.next)
        (State.emitR out { s with phase := .executing (.main e loc) }) := by
  cases exit with
  | false | true => rfl

/-! ## The phase after a call in phase Executing -/

theorem mainWriteDone_phase (e : EntryIndex) (loc : LocalState) (out : List Byte) (exit : Bool)
    (s : State) :
    (mainWriteDone e loc out exit s).phase =
      if exit then .standard else .executing (.main e loc) := by
  cases exit with
  | false | true => rfl

/-- R269: the read handler gives no way out of phase Executing. -/
theorem runRead_executing {ev : ReadEvent} {s t : State} {st : ExecStage}
    (h : runRead ev s = .next t) (hp : s.phase = .executing st) :
    ∃ st', t.phase = .executing st' := by
  obtain rfl | ⟨e, loc, loc', out, -, rfl⟩ := runRead_next h
  · exact ⟨st, hp⟩
  · exact ⟨.main e loc', rfl⟩

/-- No tick leaves phase Executing: neither the countdown nor steps 2 to 10 write the phase. -/
theorem tick_executing {s t : State} {st : ExecStage} (h : tick s = .next t)
    (hp : s.phase = .executing st) : ∃ st', t.phase = .executing st' := by
  obtain ⟨-, rfl⟩ | ⟨u, ev, hu, ht⟩ := tick_next_tickFrame h
  · obtain ⟨w, out, he, -⟩ := step1Countdown_update { s with consumed := consumedZero }
    exact ⟨st, by rw [he]; exact hp⟩
  · exact runRead_executing ht (hu.phase.trans hp)

/-- A byte leaves phase Executing only when the write handler asks for the exit (R270). -/
theorem writeHandlerByte_phase {st : ExecStage} {b : Byte} {s t : State}
    (h : writeHandlerByte st b s = .next t) :
    (∃ st', t.phase = .executing st') ∨
    (t.phase = .standard ∧ ∃ e loc loc' out, st = .main e loc ∧
      (registry e).write loc b s.view s.memRead = .done loc' out true) := by
  obtain ⟨crc, n, -, rfl⟩ | ⟨e, loc, loc', out, exit, hst, hw, rfl⟩ := writeHandlerByte_next h
  · exact .inl ⟨bootStage crc n b, rfl⟩
  · have hphase := mainWriteDone_phase e loc' out exit s
    cases exit with
    | false => exact .inl ⟨.main e loc', hphase⟩
    | true => exact .inr ⟨hphase, e, loc, loc', out, hst, hw⟩

/-! ## The statements -/

/-- Settles O35: the phase after the byte is chosen by whether any byte is left to go. -/
theorem loaderByteStoresAndCounts : Obligations.LoaderByteStoresAndCounts := by
  intro s b j0 j1 rest rem dest crc hc hp hrem
  have hleft : rem - 1 = 0 ↔ rem = 1 := by omega
  simp only [step_submit_of_loading hc hp, loadPhase, hleft]

/-- Settles O36: the load by induction over its bytes, `memWrites` being the statement's fold. -/
theorem loadRunsToCompletion : Obligations.LoadRunsToCompletion := by
  intro bs s j0 j1 dest crc hne hp hc
  cases bs with
  | nil => exact absurd rfl hne
  | cons b bs => exact run_load b bs hp hc

/-- Settles O37: the statement's round is `crcRound`, and the lookups are searches for the first
index. -/
theorem registryMatchesTheFirstEntry : Obligations.RegistryMatchesTheFirstEntry := by
  intro crc count b round hround
  obtain rfl : round = crcRound := funext fun c => (hround c).trans (crcRound_eq_ite c).symm
  exact ⟨crcByte_eq_iterate crc b, fun _ => loadMatch_eq_some_iff, loadMatch_eq_none_iff,
    fun _ => mainMatch_eq_some_iff, mainMatch_eq_none_iff, loadComplete_eq_elim crc⟩

/-- Settles O38: the stage decides which handler takes the byte, and the write handler's answer what
the step does with it. -/
theorem bootStageTakesEveryByte : Obligations.BootStageTakesEveryByte := by
  refine fun s b j0 j1 rest hc => ⟨fun crc count hp => ?_, fun e loc hp => ?_⟩
  · rw [step_submit_of_executing hc hp, ← bootStage_eq_elim]
    rfl
  · rw [step_submit_of_executing hc hp, writeHandlerByte]
    cases hw : (registry e).write loc b s.view s.memRead with
    | done loc' out exit =>
      refine (mainWrite_of_done ?_).trans (next_mainWriteDone e loc' out exit _)
      exact hw
    | refuse code => exact mainWrite_of_refuse hw

/-- Settles O39: of the five kinds of call only a byte and the external reset can leave the phase,
and a byte only through the write handler's exit. -/
theorem executingIsLeftOnlyByReset : Obligations.ExecutingIsLeftOnlyByReset := by
  intro s t st hp h
  obtain ⟨-, rfl⟩ | ⟨c, rest, hc, hrun⟩ := step_next h
  · exact .inl ⟨st, hp⟩
  · cases c with
    | submit b j0 j1 =>
      obtain hin | ⟨hstd, e, loc, loc', out, hst, hw⟩ :=
        writeHandlerByte_phase ((step_submit_of_executing hc hp).symm.trans h)
      · exact .inl hin
      · exact .inr ⟨hstd, .inr ⟨e, loc, b, j0, j1, rest, loc', out, hst, hc, hw⟩⟩
    | tick inp => exact .inl (tick_executing hrun hp)
    | keyEvent code => exact .inl (runRead_executing hrun hp)
    | hwReset cold => cases hrun; exact .inr ⟨rfl, .inl ⟨cold, rest, hc⟩⟩
    | hostWrite cell b => cases hrun; exact .inl ⟨st, hp⟩

end Sys2Proof.Machine
end

section
/-!
PROOFS. O42 and O43: the reset countdown (46_tick.md R281, R282), from the step of one tick while
the countdown runs. A run of such ticks is an induction over the ticks.
-/

namespace Sys2Proof.Machine

/-! ## One tick of the countdown -/

theorem step_tick {s : State} {inp : LiveInputs} {rest : List Call}
    (hc : s.calls = .tick inp :: rest) :
    step s = tick { s with calls := rest, live := inp } := step_of_calls hc

theorem tickWith_of_counting {s : State} (h : 0 < s.rt.count) (d : ExtraDefinition) :
    tickWith d s = .next (step1Countdown { s with consumed := consumedZero }) := if_pos h

theorem tickWith_of_count_zero {s : State} (h : s.rt.count = 0) (d : ExtraDefinition) :
    tickWith d s =
      andThen (tickBody d { s with consumed := consumedZero }) step11ReadHandler :=
  if_neg (by simp [h])

/-- R281: above 1 the countdown goes down by one and nothing else happens. -/
theorem step_tick_of_count_succ {s : State} {inp : LiveInputs} {rest : List Call} {n : Nat}
    (hc : s.calls = .tick inp :: rest) (h : s.rt.count = n + 2) :
    step s = .next { s with
      calls := rest, live := inp, consumed := consumedZero,
      rt := { s.rt with count := n + 1 } } := by
  rw [step_tick hc, tick, tickWith_of_counting (by simp [h])]
  simp [step1Countdown, h]

/-- R281: at 1 it ends, the window closes and the boot byte goes out past the gate. -/
theorem step_tick_of_count_one {s : State} {inp : LiveInputs} {rest : List Call}
    (hc : s.calls = .tick inp :: rest) (h : s.rt.count = 1) :
    step s = .next { s with
      calls := rest, live := inp, consumed := consumedZero,
      rt := { s.rt with count := 0, inWindow := false }, out := s.out ++ [bootByte] } := by
  rw [step_tick hc, tick, tickWith_of_counting (by simp [h])]
  simp [step1Countdown, h, State.emit]

/-! ## A whole countdown -/

/-- Before its last tick the countdown has emitted nothing. -/
theorem run_countdown_silent {k : Nat} {inps : List LiveInputs} {s t : State}
    (hcount : s.rt.count = inps.length) (hcalls : s.calls = inps.map .tick) (hk : k < inps.length)
    (h : Host.Core.run core k s = .next t) : t.out = s.out := by
  induction k generalizing inps s with
  | zero => cases h; rfl
  | succ k ih =>
    match inps with
    | [] => simp at hk
    | [_] => simp at hk
    | inp :: inp' :: rest =>
      rw [run_succ_of_step (step_tick_of_count_succ hcalls hcount)] at h
      have hout := ih (inps := inp' :: rest) (by rfl) (by rfl) (Nat.lt_of_succ_lt_succ hk) h
      exact hout

/-- R282: a countdown of at least one tick, run to its end. -/
theorem run_countdown (inp : LiveInputs) (inps : List LiveInputs) {s : State}
    (hcount : s.rt.count = inps.length + 1) (hcalls : s.calls = (inp :: inps).map .tick) :
    ∃ live, Host.Core.run core (inps.length + 1) s = .next { s with
      calls := [], live := live, consumed := consumedZero,
      rt := { s.rt with count := 0, inWindow := false }, out := s.out ++ [bootByte] } := by
  induction inps generalizing inp s with
  | nil => exact ⟨inp, run_succ_of_step (step_tick_of_count_one hcalls hcount) 0⟩
  | cons inp' inps ih =>
    rw [List.length_cons, run_succ_of_step (step_tick_of_count_succ hcalls hcount)]
    exact ih inp' rfl rfl

/-! ## The statements -/

/-- Settles O43: the ticks before the last are silent, and the last one ends the countdown. -/
theorem countdownEndsWithTheBootByte : Obligations.CountdownEndsWithTheBootByte := by
  intro inps s hne hcount hcalls
  refine ⟨fun k t hk h => run_countdown_silent hcount hcalls hk h, ?_⟩
  cases inps with
  | nil => exact absurd rfl hne
  | cons inp inps => exact run_countdown inp inps hcount hcalls

/-- Settles O42: the countdown is above 1 or exactly 1. -/
theorem countdownTick : Obligations.CountdownTick :=
  fun _ _ _ _ hc => ⟨step_tick_of_count_succ hc, step_tick_of_count_one hc⟩

end Sys2Proof.Machine
end

section
/-!
PROOFS. O48 and O49: the relative pointer packets of step 8 (46_tick.md R292 to R296). Each fact
about the loop is one induction over its fuel, split by whether a packet is due.
-/

namespace Sys2Proof.Machine

/-! ## The parts of a packet (R293) -/

/-- A part is a signed byte, so a packet carries it exactly. -/
theorem byteOf_clamp_toInt (v : Int) :
    (byteOf (clamp v (-128) 127)).toInt = clamp v (-128) 127 := by
  simp only [byteOf, clamp, BitVec.toInt_ofInt]
  exact Int.bmod_eq_of_le (by omega) (by omega)

/-- What is taken and what is left add up in magnitude, in X. -/
theorem natAbs_sub_relPartX (v : Int) :
    (v - relPartX v).natAbs + (relPartX v).natAbs = v.natAbs := by
  simp only [relPartX, clamp]
  omega

/-- What is taken and what is left add up in magnitude, in Y, for both directions. -/
theorem natAbs_sub_relPartY {ySign : Int} (hy : ySign = 1 ∨ ySign = -1) (v : Int) :
    (v - relPartY ySign v * ySign).natAbs + (relPartY ySign v).natAbs = v.natAbs := by
  simp only [relPartY, clamp]
  obtain rfl | rfl := hy <;> omega

/-- For a threshold of at most 127 a part below it is the whole motion (notes/assumptions/15.md). -/
theorem natAbs_lt_of_clamp_lt {v : Int} {thr : Nat} (h : (clamp v (-128) 127).natAbs < thr)
    (hthr : thr ≤ 127) : v.natAbs < thr := by
  simp only [clamp] at h
  omega

/-! ## The loop (R292, R294) -/

/-- A packet is due: a part has its threshold's magnitude, or a button edge asks for one. -/
def PacketDue (xThr yThr : Nat) (ySign : Int) (edge : Bool) (pendX pendY : Int) : Prop :=
  xThr ≤ (relPartX pendX).natAbs ∨ yThr ≤ (relPartY ySign pendY).natAbs ∨ edge = true

section
variable {hdr : Byte} {xThr yThr : Nat} {ySign : Int} {fuel : Nat} {edge : Bool} {pendX pendY : Int}

theorem not_packetDue_iff : ¬ PacketDue xThr yThr ySign edge pendX pendY ↔
    (relPartX pendX).natAbs < xThr ∧ (relPartY ySign pendY).natAbs < yThr ∧ edge = false := by
  simp [PacketDue]

/-- A due packet is sent, and the loop goes on with what it leaves and no edge. -/
theorem relPackets_of_due (h : PacketDue xThr yThr ySign edge pendX pendY) {r : Drained}
    (hr : r = relPackets hdr xThr yThr ySign fuel false
      (pendX - relPartX pendX) (pendY - relPartY ySign pendY * ySign)) :
    relPackets hdr xThr yThr ySign (fuel + 1) edge pendX pendY =
      ⟨hdr :: byteOf (relPartX pendX) :: byteOf (relPartY ySign pendY) :: r.bytes,
        r.pendX, r.pendY⟩ := by
  subst hr
  exact if_pos h

/-- With no packet due the loop has ended. -/
theorem relPackets_of_not_due (h : ¬ PacketDue xThr yThr ySign edge pendX pendY) :
    relPackets hdr xThr yThr ySign fuel edge pendX pendY = ⟨[], pendX, pendY⟩ := by
  cases fuel with
  | zero => rfl
  | succ fuel => exact if_neg h

/-- A packet that a button edge alone asks for is the last one: what it leaves of the parts is below
the thresholds too. -/
theorem not_packetDue_rest (hs : ySign = 1 ∨ ySign = -1) (hx : (relPartX pendX).natAbs < xThr)
    (hy : (relPartY ySign pendY).natAbs < yThr) :
    ¬ PacketDue xThr yThr ySign false
      (pendX - relPartX pendX) (pendY - relPartY ySign pendY * ySign) := by
  rw [not_packetDue_iff]
  simp only [relPartX, relPartY, clamp, and_true] at hx hy ⊢
  refine ⟨by omega, ?_⟩
  obtain rfl | rfl := hs <;> omega

/-- R295: with fuel for every unit of pending motion and for the edge, the loop ends because no
packet is due: each packet uses up a unit of motion or the edge. -/
theorem relPackets_ends (hx : 1 ≤ xThr) (hy : 1 ≤ yThr) (hs : ySign = 1 ∨ ySign = -1)
    (hfuel : pendX.natAbs + pendY.natAbs + edge.toNat ≤ fuel) {r : Drained}
    (hr : r = relPackets hdr xThr yThr ySign fuel edge pendX pendY) :
    ¬ PacketDue xThr yThr ySign false r.pendX r.pendY := by
  subst hr
  fun_induction relPackets with
  | case1 edge pendX pendY =>
    have hX := natAbs_sub_relPartX pendX
    have hY := natAbs_sub_relPartY hs pendY
    refine not_packetDue_iff.2 ⟨?_, ?_, rfl⟩
    · show (relPartX pendX).natAbs < xThr
      omega
    · show (relPartY ySign pendY).natAbs < yThr
      omega
  | case2 fuel edge pendX pendY hdue rest ih =>
    have hX := natAbs_sub_relPartX pendX
    have hY := natAbs_sub_relPartY hs pendY
    have hused : 1 ≤ (relPartX pendX).natAbs + (relPartY ySign pendY).natAbs + edge.toNat := by
      obtain h | h | rfl := hdue
      · omega
      · omega
      · exact Nat.le_add_left 1 _
    refine ih ?_
    simp only [Bool.toNat_false]
    omega
  | case3 fuel edge pendX pendY hdue =>
    obtain ⟨hX, hY, -⟩ := not_packetDue_iff.1 hdue
    exact not_packetDue_iff.2 ⟨hX, hY, rfl⟩

/-- The loop sends at most one packet of 3 bytes for each unit of fuel. -/
theorem relPackets_length :
    (relPackets hdr xThr yThr ySign fuel edge pendX pendY).bytes.length ≤ 3 * fuel := by
  fun_induction relPackets with
  | case1 | case3 => exact Nat.zero_le _
  | case2 fuel edge pendX pendY hdue rest ih => exact Nat.add_le_add_right ih 3

/-! ## What the packets carry (R293) -/

theorem motionOf_packet (h dx dy : Byte) (bs : List Byte) :
    motionOf (h :: dx :: dy :: bs) = (dx.toInt + (motionOf bs).1, dy.toInt + (motionOf bs).2) := rfl

/-- The motion before the loop is what it leaves and what its packets report. -/
theorem relPackets_motion {r : Drained}
    (hr : r = relPackets hdr xThr yThr ySign fuel edge pendX pendY) :
    pendX = r.pendX + (motionOf r.bytes).1 ∧ pendY = r.pendY + (motionOf r.bytes).2 * ySign := by
  subst hr
  fun_induction relPackets with
  | case1 | case3 => simp [motionOf]
  | case2 fuel edge pendX pendY hdue rest ih =>
    obtain ⟨hX, hY⟩ := ih
    have hpartX : (byteOf (relPartX pendX)).toInt = relPartX pendX := byteOf_clamp_toInt _
    have hpartY : (byteOf (relPartY ySign pendY)).toInt = relPartY ySign pendY :=
      byteOf_clamp_toInt _
    simp only [motionOf_packet, hpartX, hpartY, Int.add_mul, rest]
    omega

/-- Every packet of the loop has the loop's header. -/
theorem relPackets_header :
    ∃ parts : List (Byte × Byte),
      (relPackets hdr xThr yThr ySign fuel edge pendX pendY).bytes =
        (parts.map (fun p => [hdr, p.1, p.2])).flatten := by
  fun_induction relPackets with
  | case1 | case3 => exact ⟨[], rfl⟩
  | case2 fuel edge pendX pendY hdue rest ih =>
    obtain ⟨parts, hparts⟩ := ih
    exact ⟨(byteOf (relPartX pendX), byteOf (relPartY ySign pendY)) :: parts, by
      simp [rest, hparts]⟩

end

/-! ## Step 8 -/

/-- R296, 30_encoding.md R110: the header by the buttons. -/
theorem relHeader_eq (lDown rDown : Bool) :
    relHeader lDown rDown = if lDown then (if rDown then 0xFB else 0xFA)
      else (if rDown then 0xF9 else 0xF8) := by
  cases lDown <;> cases rDown <;> rfl

theorem step8Relative_of_relative {s : State} (h : s.mode.pointer = .relative) (e : Edges) :
    step8Relative e s = { s with
      rel := { s.rel with pendX := (relReport e s).pendX, pendY := (relReport e s).pendY }
      out := if s.paused then s.out else s.out ++ (relReport e s).bytes } := if_pos h

theorem step8Relative_of_not_relative {s : State} (h : s.mode.pointer ≠ .relative) (e : Edges) :
    step8Relative e s = s := if_neg h

/-! ## The statements -/

/-- Settles O48: the loop ends for want of a due packet, and its cases are whether one is due. -/
theorem relativeLoopTerminates : Obligations.RelativeLoopTerminates := by
  rintro hdr xThr yThr ySign pendX pendY _ _ hx hy hs rfl rfl
  refine ⟨fun edge r hr => ?_, fun hX hY fuel => ⟨?_, ?_⟩, fun hdue fuel edge r hr => ?_⟩
  · have hedge := edge.toNat_le
    have hended := relPackets_ends hx hy hs (by simp only [relBound]; omega) hr
    obtain ⟨hX, hY, -⟩ := not_packetDue_iff.1 hended
    have hYwhole : yThr ≤ 127 → r.pendY.natAbs < yThr := fun hthr => by
      have hpart := natAbs_lt_of_clamp_lt hY hthr
      obtain rfl | rfl := hs <;> omega
    exact ⟨hX, hY, natAbs_lt_of_clamp_lt hX, hYwhole, hr ▸ relPackets_length⟩
  · exact relPackets_of_not_due (not_packetDue_iff.2 ⟨hX, hY, rfl⟩)
  · exact relPackets_of_due (.inr (.inr rfl))
      (relPackets_of_not_due (not_packetDue_rest hs hX hY)).symm
  · exact relPackets_of_due (hdue.imp_right .inl) hr

/-- Settles O49: the motion and the headers by induction over the loop, step 8 by its mode. -/
theorem relativePacketsCarryTheMotion : Obligations.RelativePacketsCarryTheMotion := by
  refine ⟨fun hdr xThr yThr ySign fuel edge pendX pendY r hr => ?_, fun s e => ⟨?_, ?_⟩⟩
  · obtain ⟨hX, hY⟩ := relPackets_motion hr
    exact ⟨hX, hY, hr ▸ relPackets_header⟩
  · exact fun h => step8Relative_of_not_relative h e
  · intro h hdr r hhdr hr
    have hreport : r = relReport e s := by rw [hr, hhdr, ← relHeader_eq]; rfl
    rw [step8Relative_of_relative h, hreport]

end Sys2Proof.Machine
end

section
/-!
PROOFS. O44 to O47: steps 2 to 7 of a tick (46_tick.md R283 to R291) and the order of steps 2 to 10,
from one equation for each step and one for each bit field that the steps read or write.
-/

namespace Sys2Proof.Machine

/-! ## Bits -/

/-- A mask of one bit tests that bit. -/
theorem and_twoPow_bne_zero {w i : Nat} (hi : i < w) (x : BitVec w) :
    (x &&& BitVec.twoPow w i != 0) = x.getLsbD i := by
  have hne : BitVec.twoPow w i ≠ 0#w := fun h => by
    have hbit := congrArg (·.getLsbD i) h
    simp [hi] at hbit
  rw [BitVec.and_twoPow]
  cases x.getLsbD i <;> simp [hne]

/-- R24: the fire bit is bit 7. -/
theorem fireOf_eq_getLsbD (m : Byte) : fireOf m = m.getLsbD 7 :=
  and_twoPow_bne_zero (show 7 < 8 by decide) m

/-- R24, R286: step 4 is taken for bit 2 of the action byte and a button edge. -/
theorem keysTaken_eq (a : Byte) (e : Edges) :
    keysTaken a e = (a.getLsbD 2 && (e.edgeL || e.edgeR)) :=
  congrArg (· && (e.edgeL || e.edgeR)) (and_twoPow_bne_zero (show 2 < 8 by decide) a)

/-- R16, R118: the codes of the button edges, bit 7 set on release. -/
theorem buttonCodes_eq (e : Edges) :
    buttonCodes e = (if e.edgeL then [if e.lDown then 0x74 else 0xF4] else []) ++
      (if e.edgeR then [if e.rDown then 0x75 else 0xF5] else []) := rfl

theorem buttonCodes_of_no_edge {e : Edges} (h : (e.edgeL || e.edgeR) = false) :
    buttonCodes e = [] := by
  obtain ⟨hl, hr⟩ := Bool.or_eq_false_iff.1 h
  simp [buttonCodes, hl, hr]

/-- 30_encoding.md R117, first byte: lane 0's fire bit is worth 2, lane 1's is worth 1. -/
theorem monitorFire_toNat (m0 m1 : Byte) :
    (monitorFire m0 m1).toNat =
      (if m0.getLsbD 7 then 2 else 0) + (if m1.getLsbD 7 then 1 else 0) := by
  simp only [monitorFire, fireOf_eq_getLsbD]
  cases m0.getLsbD 7 <;> cases m1.getLsbD 7 <;> rfl

/-- 30_encoding.md R117, second byte: the direction nibbles, lane 0's the high one. -/
theorem monitorDirs_toNat (m0 m1 : Byte) :
    (monitorDirs m0 m1).toNat = m0.toNat % 16 * 16 + m1.toNat % 16 := by
  have hnibble (m : Byte) : (m &&& 0x0F).toNat = m.toNat % 16 := Nat.and_two_pow_sub_one_eq_mod _ 4
  have hlow : m1.toNat % 16 < 2 ^ 4 := Nat.mod_lt _ (by decide)
  have hshift : (m0.toNat % 16) <<< 4 = m0.toNat % 16 * 16 := Nat.shiftLeft_eq _ 4
  have hsmall : m0.toNat % 16 * 16 % 2 ^ 8 = m0.toNat % 16 * 16 := Nat.mod_eq_of_lt (by omega)
  rw [monitorDirs, BitVec.toNat_or, BitVec.toNat_shiftLeft, hnibble, hnibble, hshift, hsmall,
    ← hshift, Nat.shiftLeft_add_eq_or_of_lt hlow]

/-! ## Steps 2 to 5 -/

theorem step3DuplicateFire_of_off {s : State} (h : s.mode.pointer = .off) :
    step3DuplicateFire s = { s with btn := { s.btn with
      l := ⟨s.btn.l.ptr, false⟩, r := ⟨s.btn.r.ptr, fireOf s.joy1.cur⟩ } } := if_pos h

theorem step3DuplicateFire_of_on {s : State} (h : s.mode.pointer ≠ .off) :
    step3DuplicateFire s = { s with
      btn := { s.btn with l := ⟨s.btn.l.ptr, false⟩, r := ⟨s.btn.r.ptr, false⟩ }
      joy1 := ⟨if s.btn.r.ptr then s.joy1.cur ||| joyFire else s.joy1.cur, s.joy1.sent⟩ } :=
  if_neg h

/-- R288: the two modes that keep the pending delta. -/
theorem drains_iff (m : PointerMode) : m.drains = true ↔ m = .relative ∨ m = .cursorKeys := by
  cases m <;> decide

/-- Division truncating toward zero divides the magnitude and keeps the sign. -/
theorem tdiv_natCast_eq_sign_mul (delta : Int) (n : Nat) :
    delta.tdiv n = delta.sign * (delta.natAbs / n : Nat) := by
  have hnat (m : Nat) : (m : Int).tdiv n = (m : Int).sign * (m / n : Nat) := by
    cases m with
    | zero => simp
    | succ m => rw [Int.sign_eq_one_of_pos (by omega), one_mul]; rfl
  obtain ⟨m, rfl | rfl⟩ := delta.eq_nat_or_neg
  · exact hnat m
  · rw [Int.neg_tdiv, hnat, Int.sign_neg, neg_mul, Int.natAbs_neg, Int.natAbs_natCast]

/-- R20 above scale 1. -/
theorem absScale_of_two_le {scale : Byte} (h : 2 ≤ scale.toNat) (delta : Int) :
    absScale delta scale = delta.sign * (delta.natAbs / scale.toNat : Nat) := by
  rw [absScale, if_neg (by omega), tdiv_natCast_eq_sign_mul]

/-! ## Steps 6 and 7, and the order of steps 2 to 10 -/

theorem step7Joystick_of_auto {s : State} (h : s.mode.joystick = .auto) :
    step7Joystick s = lanesSent (s.emitR (lanePackets s)) := if_pos h

theorem step7Joystick_of_not_auto {s : State} (h : s.mode.joystick ≠ .auto) :
    step7Joystick s = s := if_neg h

/-- R287: steps 6 and 7 are the ones that a taken step 4 skips. -/
theorem unlessSkipped_of_mem {n : Nat} (h : n ∈ btnKeySkip) (taken : Bool) (f : State → State)
    (s : State) : unlessSkipped taken n f s = if taken then s else f s := by
  simp [unlessSkipped, skipped, h]

theorem unlessSkipped_of_not_mem {n : Nat} (h : n ∉ btnKeySkip) (taken : Bool) (f : State → State)
    (s : State) : unlessSkipped taken n f s = f s := by
  simp [unlessSkipped, skipped, h]

/-- R290: in Monitoring steps 7 to 10 do not run. -/
theorem reportSteps_of_monitoring {s : State} (h : s.mode.joystick = .monitoring) (taken : Bool)
    (e : Edges) : reportSteps taken e s = if taken then s else step6Monitor s :=
  (if_pos h).trans (unlessSkipped_of_mem (by decide) taken _ s)

theorem reportSteps_of_not_monitoring {s : State} (h : s.mode.joystick ≠ .monitoring) (taken : Bool)
    (e : Edges) : reportSteps taken e s = step10Wheel (step9CursorKeys taken e
      (step8Relative e (if taken then s else step7Joystick s))) := by
  rw [reportSteps, if_neg h, unlessSkipped_of_not_mem (by decide),
    unlessSkipped_of_not_mem (by decide), unlessSkipped_of_mem (by decide)]

/-- The state after steps 2 to 5 (R280). -/
def accumulated (s : State) : State :=
  step5Accumulate (step4ButtonKeys (sampled s).btn.edges (rememberButtons (sampled s)))

theorem sampled_tickFrame (s : State) : TickFrame s (sampled s) :=
  (step2Sample_tickFrame s).trans (step3DuplicateFire_tickFrame _)

theorem accumulated_tickFrame (s : State) : TickFrame s (accumulated s) :=
  (sampled_tickFrame s)
    |>.trans (rememberButtons_tickFrame _)
    |>.trans (emitR_tickFrame _ _)
    |>.trans (step5Accumulate_tickFrame _)

theorem TickFrame.mode {s t : State} (h : TickFrame s t) : t.mode = s.mode :=
  (congrArg (·.mode) h.eq).trans rfl

theorem TickFrame.action {s t : State} (h : TickFrame s t) : t.rel.action = s.rel.action :=
  (congrArg (·.rel.action) h.eq).trans rfl

/-- R280: whether step 4 is taken is read from the action byte, which the steps before
leave alone. -/
theorem tickReports_eq (s : State) :
    tickReports s = reportSteps
      (s.rel.action.getLsbD 2 && ((sampled s).btn.edges.edgeL || (sampled s).btn.edges.edgeR))
      (sampled s).btn.edges (accumulated s) := by
  rw [← (sampled_tickFrame s).action, ← keysTaken_eq]
  rfl

/-! ## The statements -/

/-- Settles O44: the two cases of step 3 are whether the pointer is off. -/
theorem fireDuplication : Obligations.FireDuplication := by
  refine fun s => ⟨rfl, fun h => ?_, step3DuplicateFire_of_on, ?_, rfl⟩
  · rw [step3DuplicateFire_of_off h, fireOf_eq_getLsbD]
  · simp [Buttons.edges, Button.down, bne, Bool.beq_eq_decide_eq]

/-- Settles O45: the path is taken for bit 2 and an edge, and without an edge there is no code. -/
theorem buttonEdgesAsKeyCodes : Obligations.ButtonEdgesAsKeyCodes := by
  intro s e
  rw [List.append_assoc, ← buttonCodes_eq, step4ButtonKeys, keysTaken_eq, State.emitR]
  cases s.rel.action.getLsbD 2 with
  | false => simp
  | true =>
    have hcodes : (if e.edgeL || e.edgeR then buttonCodes e else []) = buttonCodes e :=
      ite_eq_left_iff.2 fun h => (buttonCodes_of_no_edge (by simpa using h)).symm
    rw [Bool.true_and, hcodes]
    simp

/-- Settles O46: a clamped coordinate is the exact sum clamped, and the modes that keep the pending
delta are the two that drain it. -/
theorem accumulationClampsThePosition : Obligations.AccumulationClampsThePosition := by
  refine ⟨?_, fun delta scale => ⟨fun h => if_pos h, fun h => absScale_of_two_le h delta⟩⟩
  rintro s _ rfl
  refine ⟨clampCoord_toNat _ _, clampCoord_toNat _ _, ?_⟩
  simp only [← drains_iff]
  rfl

/-- Settles O47: each step by its mode, and the order of the steps by what step 4 skips. -/
theorem joystickReportPackets : Obligations.JoystickReportPackets := by
  refine fun s => ⟨⟨_, _, rfl, monitorFire_toNat _ _, monitorDirs_toNat _ _⟩,
    step7Joystick_of_not_auto, fun h => ?_, ?_⟩
  · rw [step7Joystick_of_auto h, List.append_assoc]
    rfl
  · rintro _ _ _ _ rfl rfl rfl rfl
    have hmode : (accumulated s).mode = s.mode := (accumulated_tickFrame s).mode
    rw [tickReports_eq]
    exact ⟨fun h => reportSteps_of_monitoring (by rw [hmode, h]) _ _,
      fun h => reportSteps_of_not_monitoring (by rwa [hmode]) _ _⟩

end Sys2Proof.Machine
end

section
/-!
PROOFS. O50: the cursor-key emulation of step 9 (46_tick.md R297 to R299), from a closed form of one
axis: how many pairs it sends is a division, and what it takes is that many steps.
-/

namespace Sys2Proof.Machine

/-! ## One axis (R297) -/

/-- The number of pairs that an axis sends: as many whole steps as the delta holds, up to the
cap. -/
def cursorPairs (stepSize cap : Nat) (pend : Int) : Nat := min cap (pend.natAbs / stepSize)

section
variable {stepSize : Nat} {pos neg : Byte} {cap : Nat} {pend : Int}

theorem cursorAxis_of_le (h : stepSize ≤ pend.natAbs) :
    cursorAxis stepSize pos neg (cap + 1) pend =
      (keyPair (if 0 < pend then pos else neg) ++
          (cursorAxis stepSize pos neg cap (pend - pend.sign * stepSize)).1,
        (cursorAxis stepSize pos neg cap (pend - pend.sign * stepSize)).2) := if_pos h

theorem cursorAxis_of_lt (h : pend.natAbs < stepSize) :
    cursorAxis stepSize pos neg cap pend = ([], pend) := by
  cases cap with
  | zero => rfl
  | succ cap => exact if_neg (by omega)

theorem cursorPairs_of_lt (h : pend.natAbs < stepSize) : cursorPairs stepSize cap pend = 0 := by
  rw [cursorPairs, Nat.div_eq_of_lt h, Nat.min_zero]

/-- A step toward zero lowers the magnitude by the step. -/
theorem natAbs_sub_sign_mul (h : stepSize ≤ pend.natAbs) :
    (pend - pend.sign * stepSize).natAbs = pend.natAbs - stepSize := by
  obtain hp | rfl | hp := Int.lt_trichotomy pend 0
  · rw [Int.sign_eq_neg_one_of_neg hp]
    omega
  · simp
  · rw [Int.sign_eq_one_of_pos hp]
    omega

theorem cursorPairs_of_le (hstep : 1 ≤ stepSize) (h : stepSize ≤ pend.natAbs) :
    cursorPairs stepSize (cap + 1) pend =
      cursorPairs stepSize cap (pend - pend.sign * stepSize) + 1 := by
  rw [cursorPairs, cursorPairs, natAbs_sub_sign_mul h, Nat.div_eq_sub_div hstep h,
    Nat.add_min_add_right]

/-- While motion is left after a step, its sign is as it was. -/
theorem sign_sub_sign_mul (h : stepSize < pend.natAbs) :
    (pend - pend.sign * stepSize).sign = pend.sign := by
  obtain hp | rfl | hp := Int.lt_trichotomy pend 0
  · rw [Int.sign_eq_neg_one_of_neg hp]
    exact Int.sign_eq_neg_one_of_neg (by omega)
  · simp
  · rw [Int.sign_eq_one_of_pos hp]
    exact Int.sign_eq_one_of_pos (by omega)

/-- R297: the pairs of the key of the delta's sign, and the steps that they take. -/
theorem cursorAxis_eq (hstep : 1 ≤ stepSize) :
    cursorAxis stepSize pos neg cap pend =
      ((List.replicate (cursorPairs stepSize cap pend)
          (keyPair (if 0 < pend then pos else neg))).flatten,
        pend - pend.sign * (stepSize * cursorPairs stepSize cap pend : Nat)) := by
  induction cap generalizing pend with
  | zero => simp [cursorAxis, cursorPairs]
  | succ cap ih =>
    obtain hlt | hle := Nat.lt_or_ge pend.natAbs stepSize
    · simp [cursorAxis_of_lt hlt, cursorPairs_of_lt hlt]
    · rw [cursorAxis_of_le hle, cursorPairs_of_le hstep hle, List.replicate_succ, List.flatten_cons]
      obtain heq | hlt := Nat.eq_or_lt_of_le hle
      · have hleft : (pend - pend.sign * stepSize).natAbs < stepSize := by
          rw [natAbs_sub_sign_mul hle]
          omega
        simp [cursorAxis_of_lt hleft, cursorPairs_of_lt hleft]
      · have hsign := sign_sub_sign_mul hlt
        have hpos : 0 < pend - pend.sign * stepSize ↔ 0 < pend := by
          rw [← Int.sign_eq_one_iff_pos, hsign, Int.sign_eq_one_iff_pos]
        rw [ih, hsign]
        simp only [hpos, Nat.mul_succ, Nat.cast_add, Int.mul_add]
        congr 1
        omega

/-- What an axis takes is no more than it holds. -/
theorem mul_cursorPairs_le : stepSize * cursorPairs stepSize cap pend ≤ pend.natAbs :=
  (Nat.mul_le_mul_left stepSize (Nat.min_le_right _ _)).trans (Nat.mul_div_le _ _)

/-- Below the cap, less than one step is left. -/
theorem lt_of_cursorPairs_lt (hstep : 1 ≤ stepSize) (h : cursorPairs stepSize cap pend < cap) :
    pend.natAbs - stepSize * cursorPairs stepSize cap pend < stepSize := by
  have hdiv : cursorPairs stepSize cap pend = pend.natAbs / stepSize := by
    rw [cursorPairs] at h ⊢
    omega
  rw [hdiv, ← Nat.mod_eq_sub_mul_div]
  exact Nat.mod_lt _ hstep

end

/-! ## Step 9 -/

/-- R298: a step of 0 is used as 1. -/
theorem max1_toNat (v : Byte) : (max1 v).toNat = if v.toNat = 0 then 1 else v.toNat := by
  rw [max1_eq_ite]
  split <;> rfl

theorem step9CursorKeys_of_cursorKeys {s : State} (h : s.mode.pointer = .cursorKeys) (taken : Bool)
    (e : Edges) : step9CursorKeys taken e s = { s with
      rel := { s.rel with pendX := (cursorX s).2, pendY := (cursorY s).2 }
      out := if s.paused then s.out
             else s.out ++ ((cursorX s).1 ++ (cursorY s).1 ++ cursorButtons taken e) } := if_pos h

theorem step9CursorKeys_of_not_cursorKeys {s : State} (h : s.mode.pointer ≠ .cursorKeys)
    (taken : Bool) (e : Edges) : step9CursorKeys taken e s = s := if_neg h

/-! ## The statement -/

/-- Settles O50: the number of pairs is a division, and step 9 is by its mode. -/
theorem cursorAxisDrainsUpToTheCap : Obligations.CursorAxisDrainsUpToTheCap := by
  refine ⟨fun stepSize pos neg cap pend hstep => ?_, fun s taken e =>
    ⟨fun h => step9CursorKeys_of_not_cursorKeys h taken e, ?_⟩⟩
  · rw [cursorAxis_eq hstep]
    exact ⟨cursorPairs stepSize cap pend, Nat.min_le_left _ _, rfl, rfl, mul_cursorPairs_le,
      lt_of_cursorPairs_lt hstep⟩
  · rintro h _ _ rfl rfl
    rw [step9CursorKeys_of_cursorKeys h, cursorX, cursorY, max1_toNat, max1_toNat, cursorButtons,
      buttonCodes_eq]
    simp only [List.append_assoc]
    rfl

end Sys2Proof.Machine
end

section
/-!
PROOFS. O51 and O55: step 10, the order of a whole tick and when it refuses (46_tick.md R280, R300
to R303), and what no tick changes.
-/

namespace Sys2Proof.Machine

/-! ## Step 10, the wheel (R300) -/

theorem step10Wheel_eq (s : State) : step10Wheel s = { s with
    consumed := { s.consumed with wheelUsed := s.live.wheel.sign }
    out := if s.paused then s.out else s.out ++ wheelCodes s.live.wheel } := rfl

theorem wheelCodes_of_pos {w : Int} (h : 0 < w) : wheelCodes w = keyPair wheelUpKey := if_pos h

theorem wheelCodes_of_neg {w : Int} (h : w < 0) : wheelCodes w = keyPair wheelDownKey := by
  rw [wheelCodes, if_neg (by omega), if_pos h]

theorem wheelCodes_zero : wheelCodes 0 = [] := rfl

/-! ## The whole tick -/

theorem TickFrame.live {s t : State} (h : TickFrame s t) : t.live = s.live :=
  (congrArg (·.live) h.eq).trans rfl

/-- R290, R303: in Monitoring the read handler call follows steps 2 to 6. -/
theorem tick_of_monitoring {s u : State} (hcount : s.rt.count = 0)
    (hmode : s.mode.joystick = .monitoring)
    (hu : u = tickReports { s with consumed := consumedZero }) :
    tick s = runRead (.tick s.live) u := by
  have hlive : u.live = s.live := hu ▸ (tickReports_tickFrame _).live
  have hbody : tickBody extraDefinition { s with consumed := consumedZero } = .next u :=
    (if_pos hmode).trans (congrArg _ hu.symm)
  rw [tick, tickWith_of_count_zero hcount, hbody, andThen_next, step11ReadHandler, hlive]

/-- R301, R303: in the other modes the other synthetic events come before it. -/
theorem tick_of_not_monitoring {s u : State} (hcount : s.rt.count = 0)
    (hmode : s.mode.joystick ≠ .monitoring)
    (hu : u = tickReports { s with consumed := consumedZero }) :
    tick s = runRead (.tick s.live)
      (extraEventsDone (extraEventsOf u.view u.phase u.mem s.live) u) := by
  have hlive : u.live = s.live := hu ▸ (tickReports_tickFrame _).live
  have hbody : tickBody extraDefinition { s with consumed := consumedZero } =
      step10ExtraEvents extraDefinition u :=
    (if_neg hmode).trans (congrArg _ hu.symm)
  rw [tick, tickWith_of_count_zero hcount, hbody, step10ExtraEvents_extraDefinition, andThen_next,
    step11ReadHandler, extraEventsDone_live, hlive]

/-- 60_exceptions.md R342: a refusal that a definition of `P_EXTRA_EVENTS` makes is the tick's. -/
theorem tickWith_of_refuse {d : ExtraDefinition} {s u : State} {code : Nat}
    (hcount : s.rt.count = 0) (hmode : s.mode.joystick ≠ .monitoring)
    (hu : u = tickReports { s with consumed := consumedZero })
    (hd : d u.view u.phase u.mem u.live = .refuse code) : tickWith d s = refuseExtra code u := by
  have hbody : tickBody d { s with consumed := consumedZero } = step10ExtraEvents d u :=
    (if_neg hmode).trans (congrArg _ hu.symm)
  have hrefuse : step10ExtraEvents d u = refuseExtra code u := by simp only [step10ExtraEvents, hd]
  rw [tickWith_of_count_zero hcount, hbody, hrefuse, refuseExtra, andThen_refused]

/-- A read handler call answers a next state, or the custom program's handler refuses (R269). -/
theorem runRead_next_or_refused (ev : ReadEvent) (s : State) :
    (∃ t, runRead ev s = .next t) ∨
    (∃ e loc rh code t, s.phase = .executing (.main e loc) ∧ (registry e).read = some rh ∧
      runRead ev s = .refused (.customProgram e code t)) := by
  simp only [runRead]
  split
  · rename_i e loc hp
    simp only [mainRead]
    split
    · rename_i rh hrh
      split
      · exact .inl ⟨_, rfl⟩
      · exact .inr ⟨e, loc, rh, _, _, hp, hrh, rfl⟩
    · exact .inl ⟨s, rfl⟩
  · exact .inl ⟨s, rfl⟩

/-- R280: a tick never refuses, except through a custom handler. -/
theorem tick_next_or_refused (s : State) :
    (∃ t, tick s = .next t) ∨
    (∃ e loc rh code t, s.phase = .executing (.main e loc) ∧ (registry e).read = some rh ∧
      tick s = .refused (.customProgram e code t)) := by
  obtain hc | hc := Nat.eq_zero_or_pos s.rt.count
  · obtain ⟨u, hu⟩ : ∃ u, tickBody extraDefinition { s with consumed := consumedZero } = .next u :=
      ⟨_, tickBody_extraDefinition _⟩
    have hphase : u.phase = s.phase := (tickBody_tickFrame hu).phase
    rw [tick, tickWith_of_count_zero hc, hu, andThen_next, step11ReadHandler, ← hphase]
    exact runRead_next_or_refused _ u
  · exact .inl ⟨_, tickWith_of_counting hc _⟩

/-! ## What a tick leaves unchanged -/

/-- A read handler call leaves the phase but for the local state of the program (R269). -/
theorem runRead_phase {ev : ReadEvent} {s t : State} (h : runRead ev s = .next t) :
    t.phase = s.phase ∨
      ∃ e l l', s.phase = .executing (.main e l) ∧ t.phase = .executing (.main e l') := by
  obtain rfl | ⟨e, l, l', out, hp, rfl⟩ := runRead_next h
  · exact .inl rfl
  · exact .inr ⟨e, l, l', hp, rfl⟩

/-- A read handler call writes the output and the phase only. -/
theorem runRead_update {ev : ReadEvent} {s t : State} (h : runRead ev s = .next t) :
    t = { s with out := t.out, phase := t.phase } := by
  obtain rfl | ⟨e, l, l', out, hp, rfl⟩ := runRead_next h
  · rfl
  · rfl

/-- A tick writes what steps 2 to 10 may write, the phase, the countdown and the window flag. -/
theorem tick_update {s t : State} (h : tick s = .next t) :
    t = { tickWrites s t with
      phase := t.phase
      rt := { s.rt with count := t.rt.count, inWindow := t.rt.inWindow } } := by
  obtain ⟨-, rfl⟩ | ⟨u, ev, hu, ht⟩ := tick_next_tickFrame h
  · obtain ⟨w, out, he, -⟩ := step1Countdown_update { s with consumed := consumedZero }
    rw [he]
    rfl
  · rw [runRead_update ht, hu.eq]
    rfl

/-- A tick takes one from the countdown, and leaves it at 0 when it is over. -/
theorem tick_count {s t : State} (h : tick s = .next t) : t.rt.count = s.rt.count - 1 := by
  obtain ⟨-, rfl⟩ | ⟨hc, u, hu, ht⟩ := tick_next h
  · obtain ⟨w, out, he, -⟩ := step1Countdown_update { s with consumed := consumedZero }
    rw [he]
  · have hrt : t.rt = s.rt :=
      (congrArg (·.rt) (runRead_update ht)).trans (tickBody_tickFrame hu).rt
    rw [hrt, hc]

/-- A tick leaves the phase but for the local state of a custom program. -/
theorem tick_phase {s t : State} (h : tick s = .next t) :
    t.phase = s.phase ∨
      ∃ e l l', s.phase = .executing (.main e l) ∧ t.phase = .executing (.main e l') := by
  obtain ⟨-, rfl⟩ | ⟨u, ev, hu, ht⟩ := tick_next_tickFrame h
  · obtain ⟨w, out, he, -⟩ := step1Countdown_update { s with consumed := consumedZero }
    exact .inl (by rw [he])
  · rw [← hu.phase]
    exact runRead_phase ht

/-! ## The statements -/

/-- Settles O55: each field is read off what a tick writes. -/
theorem tickLeavesTheConfiguration : Obligations.TickLeavesTheConfiguration := by
  intro s t inp rest hc h
  have htick := (step_tick hc).symm.trans h
  have hup := tick_update htick
  have hcount := tick_count htick
  have hphase := tick_phase htick
  exact ⟨congrArg (·.frame) hup, congrArg (·.mode) hup, congrArg (·.paused) hup,
    congrArg (·.clock) hup, congrArg (·.keys) hup, congrArg (·.refused) hup, congrArg (·.mem) hup,
    congrArg (·.calls) hup, congrArg (·.live) hup, congrArg (·.abs) hup, congrArg (·.rel) hup,
    congrArg (·.rt) hup, hcount, hphase⟩

/-- Settles O51: the wheel by its sign, the tick by the mode, and a refusal by where it is made. -/
theorem wheelUsesOneUnit : Obligations.WheelUsesOneUnit := by
  refine ⟨fun s => ⟨fun h => ?_, fun h => ?_, fun h => ?_⟩, fun s u inp rest hc hcount hu => ?_,
    fun s inp rest hc => ?_, fun d s u code hcount hmode hu hd =>
      tickWith_of_refuse hcount hmode hu hd⟩
  · rw [step10Wheel_eq, wheelCodes_of_pos h, Int.sign_eq_one_of_pos h]
    rfl
  · rw [step10Wheel_eq, wheelCodes_of_neg h, Int.sign_eq_neg_one_of_neg h]
    rfl
  · rw [step10Wheel_eq, h, wheelCodes_zero]
    simp
  · rw [step_tick hc]
    exact ⟨fun hmode => tick_of_monitoring hcount hmode hu,
      fun hmode => tick_of_not_monitoring hcount hmode hu⟩
  · rw [step_tick hc]
    exact tick_next_or_refused { s with calls := rest, live := inp }

end Sys2Proof.Machine
end

section
/-!
PROOFS. O53 and O54: the tick under pause (46_tick.md R302). Setting the paused flag and putting an
output stream in place commutes with every step from 2 to 10, because no step reads either field but
through the gate.
-/

namespace Sys2Proof.Machine

/-! ## Under pause, with a given output stream -/

/-- `s` under pause, with `out` for its output stream. -/
def State.muted (out : List Byte) (s : State) : State := { s with paused := true, out := out }

theorem muted_of_paused {s : State} (h : s.paused = true) : s.muted s.out = s := by
  cases s
  cases h
  rfl

theorem muted_out (out : List Byte) (s : State) : (s.muted out).out = out := rfl

/-- A step that is one of two, by a condition that reads neither field, is so under pause too. -/
theorem ite_muted {out : List Byte} {p : Prop} [Decidable p] {a b a' b' : State}
    (ha : a' = a.muted out) (hb : b' = b.muted out) :
    (if p then a' else b') = (if p then a else b).muted out := by
  rw [ha, hb, apply_ite (State.muted out)]

section
variable (out : List Byte) (s : State)

theorem step3DuplicateFire_muted :
    step3DuplicateFire (s.muted out) = (step3DuplicateFire s).muted out :=
  ite_muted rfl rfl

theorem sampled_muted : sampled (s.muted out) = (sampled s).muted out :=
  step3DuplicateFire_muted out (step2Sample s)

theorem accumulated_muted : accumulated (s.muted out) = (accumulated s).muted out := by
  rw [accumulated, sampled_muted]
  rfl

theorem step7Joystick_muted :
    step7Joystick (s.muted out) = (step7Joystick s).muted out :=
  ite_muted rfl rfl

theorem step8Relative_muted (e : Edges) :
    step8Relative e (s.muted out) = (step8Relative e s).muted out :=
  ite_muted rfl rfl

theorem step9CursorKeys_muted (taken : Bool) (e : Edges) :
    step9CursorKeys taken e (s.muted out) = (step9CursorKeys taken e s).muted out :=
  ite_muted rfl rfl

theorem reportSteps_muted (taken : Bool) (e : Edges) :
    reportSteps taken e (s.muted out) = (reportSteps taken e s).muted out := by
  by_cases h : s.mode.joystick = .monitoring
  · rw [reportSteps_of_monitoring h, reportSteps_of_monitoring (s := s.muted out) h]
    exact ite_muted rfl rfl
  · rw [reportSteps_of_not_monitoring h, reportSteps_of_not_monitoring (s := s.muted out) h,
      ite_muted rfl (step7Joystick_muted out s), step8Relative_muted, step9CursorKeys_muted]
    rfl

/-- Steps 2 to 10 write the same state under pause, and leave the output stream as it was. -/
theorem tickReports_muted : tickReports (s.muted out) = (tickReports s).muted out := by
  rw [tickReports_eq, tickReports_eq, accumulated_muted, sampled_muted, ← reportSteps_muted]
  rfl

end

/-- Under pause a read handler call emits nothing (R268). -/
theorem runRead_out_of_paused {ev : ReadEvent} {s t : State} (h : runRead ev s = .next t)
    (hp : s.paused = true) : t.out = s.out := by
  obtain rfl | ⟨e, loc, loc', out, -, rfl⟩ := runRead_next h
  · rfl
  · simp [hp]

theorem tickReports_out_of_paused {s : State} (hp : s.paused = true) :
    (tickReports s).out = s.out := by
  rw [← muted_of_paused hp, tickReports_muted, muted_out, muted_out]

theorem tickBody_out_of_paused {d : ExtraDefinition} {s u : State} (h : tickBody d s = .next u)
    (hp : s.paused = true) : u.out = s.out := by
  obtain ⟨-, rfl⟩ | ⟨-, v, rfl⟩ := tickBody_next h
  · exact tickReports_out_of_paused hp
  · have hpaused : (tickReports s).paused = true := (tickReports_tickFrame s).paused.trans hp
    rw [extraEventsDone_out, if_pos hpaused, tickReports_out_of_paused hp]

/-! ## The statements -/

/-- Settles O54: both sides are steps 2 to 10 of the state under pause. -/
theorem pausedTickUpdatesStateAsIfNotPaused : Obligations.PausedTickUpdatesStateAsIfNotPaused :=
  fun s => tickReports_muted s.out { s with paused := false }

/-- Settles O53: steps 2 to 10, the other synthetic events and the read handler call each emit
nothing under pause. -/
theorem pausedTickEmitsNothing : Obligations.PausedTickEmitsNothing := by
  intro s t inp rest hc hcount hp h
  obtain ⟨hpos, -⟩ | ⟨-, u, hu, ht⟩ := tick_next ((step_tick hc).symm.trans h)
  · exact absurd hcount (Nat.ne_of_gt hpos)
  · have hpaused : u.paused = true := (tickBody_tickFrame hu).paused.trans hp
    have hout := tickBody_out_of_paused hu hp
    exact (runRead_out_of_paused ht hpaused).trans hout

end Sys2Proof.Machine
end

section
/-!
PROOFS. O52: the scenario of 95_test_vectors.md X7, run step by step: without an edge, a changed
lane or a wheel unit, steps 4, 7 and 10 do nothing, and step 8 sends the one packet.
-/

namespace Sys2Proof.Machine

/-! ## The steps that have nothing to report -/

/-- With the pointer on, no live button and the lanes as they were sent, nothing shows as
changed. -/
theorem sampled_of_quiet {s : State} (hp : s.mode.pointer ≠ .off) (hb : s.live.buttons = 0)
    (h0 : joySample s.live.joy0 = s.joy0.sent) (h1 : joySample s.live.joy1 = s.joy1.sent) :
    sampled s = { s with
      btn  := ⟨⟨false, false⟩, ⟨false, false⟩, s.btn.prevL, s.btn.prevR⟩
      joy0 := ⟨s.joy0.sent, s.joy0.sent⟩
      joy1 := ⟨s.joy1.sent, s.joy1.sent⟩ } := by
  refine (step3DuplicateFire_of_on (s := step2Sample s) hp).trans ?_
  simp [step2Sample, sampleLanes, hb, h0, h1]

theorem Lane.allSent_eq_self {l : Lane} (h : l.cur = l.sent) : { l with sent := l.cur } = l := by
  cases l
  cases h
  rfl

/-- Lanes that are as they were sent make no change packet (R291). -/
theorem step7Joystick_of_sent {s : State} (h0 : s.joy0.cur = s.joy0.sent)
    (h1 : s.joy1.cur = s.joy1.sent) : step7Joystick s = s := by
  by_cases h : s.mode.joystick = .auto
  · have hnone : lanePackets s = [] := by simp [lanePackets, lanePacket, h0, h1]
    rw [step7Joystick_of_auto h, hnone]
    simp [lanesSent, State.emitR, Lane.allSent_eq_self h0, Lane.allSent_eq_self h1]
  · exact step7Joystick_of_not_auto h

/-- R291, R300: with the lanes as they were sent and no wheel, steps 6 to 10 in pointer mode
Relative and joystick mode Auto are step 8, and the wheel's unit is zero. -/
theorem reportSteps_of_relative {s : State} {taken : Bool} {e : Edges}
    (hmode : s.mode = ⟨.relative, .auto⟩) (h0 : s.joy0.cur = s.joy0.sent)
    (h1 : s.joy1.cur = s.joy1.sent) (hwheel : s.live.wheel = 0) :
    reportSteps taken e s =
      { step8Relative e s with consumed := { s.consumed with wheelUsed := 0 } } := by
  have hrelative : s.mode.pointer = .relative := by rw [hmode]
  rw [reportSteps_of_not_monitoring (by simp [hmode]), step7Joystick_of_sent h0 h1, ite_self,
    step8Relative_of_relative hrelative, step9CursorKeys_of_not_cursorKeys (by simp [hmode]),
    step10Wheel_eq, hwheel, wheelCodes_zero]
  simp

/-- A motion within one packet's reach is sent whole, by that packet alone. -/
theorem relPackets_of_small {hdr : Byte} {xThr yThr : Nat} {ySign : Int} {fuel : Nat} {dx : Int}
    (hx : 1 ≤ xThr) (hy : 1 ≤ yThr) (hthr : xThr ≤ dx.natAbs) (hlo : -128 ≤ dx) (hhi : dx ≤ 127) :
    relPackets hdr xThr yThr ySign (fuel + 1) false dx 0 = ⟨[hdr, byteOf dx, 0x00], 0, 0⟩ := by
  have hpartX : relPartX dx = dx := by
    simp only [relPartX, clamp]
    omega
  have hpartY : relPartY ySign 0 = 0 := by simp [relPartY, clamp]
  have hdue : PacketDue xThr yThr ySign false dx 0 := .inl (hpartX.symm ▸ hthr)
  have hended : ¬ PacketDue xThr yThr ySign false 0 0 :=
    not_packetDue_iff.2 ⟨hx, hpartY.symm ▸ hy, rfl⟩
  rw [relPackets_of_due hdue rfl, hpartX, hpartY]
  simp [relPackets_of_not_due hended, byteOf]

/-- R286, R288: without a button edge steps 2 to 5 in pointer mode Relative add the live delta to
the pending one and emit nothing. -/
theorem accumulated_of_relative {s : State} (hp : s.mode.pointer = .relative)
    (hb : s.live.buttons = 0) (h0 : joySample s.live.joy0 = s.joy0.sent)
    (h1 : joySample s.live.joy1 = s.joy1.sent)
    (hedges : (sampled s).btn.edges = ⟨false, false, false, false⟩) :
    accumulated s = { s with
      btn  := (rememberButtons (sampled s)).btn
      joy0 := ⟨s.joy0.sent, s.joy0.sent⟩
      joy1 := ⟨s.joy1.sent, s.joy1.sent⟩
      abs  := movedAbs s
      rel  := { s.rel with
        pendX := s.rel.pendX + s.live.dx, pendY := s.rel.pendY + s.live.dy }
      consumed := { s.consumed with dx := s.live.dx, dy := s.live.dy } } := by
  have hkeep : s.mode.pointer.drains = true := (drains_iff _).2 (.inl hp)
  have hnone : buttonCodes ⟨false, false, false, false⟩ = [] := rfl
  rw [accumulated, hedges, step4ButtonKeys, hnone, ite_self,
    sampled_of_quiet (by simp [hp]) hb h0 h1]
  simp [step5Accumulate, movedAbs, rememberButtons, State.emitR, hkeep]

/-! ## The statement -/

/-- Settles O52: what steps 2 to 5 leave is one small motion pending, which step 8 sends. -/
theorem smallRelativeMotionIsOnePacket : Obligations.SmallRelativeMotionIsOnePacket := by
  intro s hpaused hmode hxThr hyThr hpendX hpendY hprevL hprevR h0 h1 hbuttons hwheel hlo hhi hdy
  have hp : s.mode.pointer = .relative := by rw [hmode]
  have hedges : (sampled s).btn.edges = ⟨false, false, false, false⟩ := by
    rw [sampled_of_quiet (by simp [hp]) hbuttons h0 h1, hprevL, hprevR]
    rfl
  have hacc := accumulated_of_relative hp hbuttons h0 h1 hedges
  have hreport : relReport ⟨false, false, false, false⟩ (accumulated s) =
      ⟨[0xF8, byteOf s.live.dx, 0x00], 0, 0⟩ := by
    have hxOne : s.rel.xThr.toNat = 1 := by rw [hxThr]; rfl
    have hyOne : s.rel.yThr.toNat = 1 := by rw [hyThr]; rfl
    have hbound : relBound s.live.dx 0 = s.live.dx.natAbs + 1 := by
      rw [relBound]
      omega
    rw [relReport, hacc]
    simp only [hxOne, hyOne, hpendX, hpendY, hdy, zero_add, hbound]
    exact relPackets_of_small le_rfl le_rfl (by omega) (by omega) hhi
  have hstep8 := step8Relative_of_relative (s := accumulated s) (by rw [hacc, hp])
    ⟨false, false, false, false⟩
  rw [hreport] at hstep8
  obtain ⟨hjoy0, hjoy1⟩ : (accumulated s).joy0.cur = (accumulated s).joy0.sent ∧
      (accumulated s).joy1.cur = (accumulated s).joy1.sent := by rw [hacc]; exact ⟨rfl, rfl⟩
  rw [tickReports_eq, hedges, reportSteps_of_relative (s := accumulated s) (by rw [hacc, hmode])
    hjoy0 hjoy1 (by rw [hacc, hwheel]), hstep8, hacc]
  exact ⟨by simp [hpaused, byteOf], rfl, rfl⟩

end Sys2Proof.Machine
end

section
/-!
PROOFS. O40 and O41: the host events (47_host_events.md), the external reset and the key event, each
from the one call that its step makes. What the key event does to the table is said entry by entry,
and what the read handler call does by the phase and the handler's answer (45_custom_program.md
R269).
-/

namespace Sys2Proof.Machine

/-! ## The key table -/

/-- R330: the entry is the code's low seven bits. -/
theorem keyIndex_val (code : Byte) : (keyIndex code).val = code.toNat % 128 := by
  simp [keyIndex]

/-- R118: a code below 0x80 is a press. -/
theorem isPress_eq (code : Byte) : isPress code = decide (code.toNat < 128) := by
  simp only [isPress, BitVec.msb_eq_decide, ← decide_not, Nat.not_le]

/-- R330: a key event sets its own key's entry and no other. -/
theorem keyTable_keys_getElem (code : Byte) (s : State) (k : Fin 128) :
    (keyTable code s).keys[k] =
      if k.val = code.toNat % 128 then decide (code.toNat < 128) else s.keys[k] := by
  have hset : (keyTable code s).keys[k] =
      if (keyIndex code).val = k.val then isPress code else s.keys[k] :=
    Vector.getElem_set (keyIndex code).isLt k.isLt
  rw [hset, keyIndex_val, isPress_eq]
  simp only [eq_comm]

theorem step_keyEvent {s : State} {code : Byte} {rest : List Call}
    (hc : s.calls = .keyEvent code :: rest) :
    step s = onKeyEvent code { s with calls := rest } := step_of_calls hc

/-! ## The read handler call -/

theorem runRead_of_main {s : State} {e : EntryIndex} {loc : LocalState}
    (hp : s.phase = .executing (.main e loc)) (ev : ReadEvent) :
    runRead ev s = mainRead e loc ev s := by
  simp only [runRead, hp]

/-- R269: outside Executing(Main) there is no read handler to run. -/
theorem runRead_of_not_main {s : State} (hp : ∀ e loc, s.phase ≠ .executing (.main e loc))
    (ev : ReadEvent) : runRead ev s = .next s := by
  cases h : s.phase with
  | standard | bootMatched | loading => simp only [runRead, h]
  | executing st =>
    cases st with
    | boot => simp only [runRead, h]
    | main e loc => exact absurd h (hp e loc)

/-! ## The obligations -/

/-- Settles O40: the step is `engineReset`, whose fields are those of the reset state. -/
theorem externalResetValues : Obligations.ExternalResetValues := by
  intro s cold rest hc
  have hstep : step s = .next (engineReset cold { s with calls := rest }) := step_of_calls hc
  exact hstep

/-- Settles O41: the key table entry by entry, and the read handler call by phase and answer. -/
theorem keyEventUpdatesTheTableAndEmits : Obligations.KeyEventUpdatesTheTableAndEmits := by
  refine ⟨?_, fun s ev => ⟨fun hp => runRead_of_not_main hp ev, ?_⟩⟩
  · intro s code rest hc
    exact ⟨_, step_keyEvent hc, keyTable_keys_getElem code { s with calls := rest }⟩
  · intro e loc hp
    rw [runRead_of_main hp, mainRead]
    cases (registry e).read with
    | none => rfl
    | some handler => cases handler loc s.view s.memRead ev <;> rfl

end Sys2Proof.Machine
end

section
/-!
SUPPORT. What every command leaves unchanged or changes in one known way, said once: the calls still
to be made, the clock, and the way into phase Executing (10_state.md R47, 43_cmd_system.md R203,
R206).
-/

namespace Sys2Proof.Machine

/-- Command `i` from `s` to `u`: the host's calls are not touched, only SET_CLOCK writes the clock,
and phase Executing is entered only from BootMatched (45_custom_program.md R264). -/
structure CommandFrame (i : Instr) (s u : State) : Prop where
  calls : u.calls = s.calls
  clock : u.clock = s.clock ∨ ∃ a b c d e f, i = .setClock a b c d e f
  executing : ∀ st, u.phase = .executing st →
    s.phase = .executing st ∨ ∃ e, s.phase = .bootMatched e

/-- A command that writes neither the calls, nor the clock, nor the phase. -/
theorem CommandFrame.of_eq {i : Instr} {s u : State} (hcalls : u.calls = s.calls)
    (hclock : u.clock = s.clock) (hphase : u.phase = s.phase) : CommandFrame i s u :=
  ⟨hcalls, .inl hclock, fun _ h => .inl (hphase.symm.trans h)⟩

theorem exec_commandFrame {i : Instr} {s u : State} (h : exec i s = .next u) :
    CommandFrame i s u := by
  cases i with
  | reset m =>
    obtain rfl | rfl := exec_reset_next h
    · exact ⟨rfl, .inl rfl, fun _ h => nomatch h⟩
    · exact .of_eq rfl rfl rfl
  | setClock a b c d e f =>
    cases h
    exact ⟨rfl, .inr ⟨a, b, c, d, e, f, rfl⟩, fun _ => .inl⟩
  | memLoad a n =>
    cases h
    exact ⟨rfl, .inl rfl, fun st h => absurd h (loadPhase_ne_executing _ _ _ st)⟩
  | execute a =>
    by_cases hp : ∃ e, s.phase = .bootMatched e
    · obtain rfl | rfl := exec_execute_next h <;> exact ⟨rfl, .inl rfl, fun _ _ => .inr hp⟩
    · cases (exec_execute_of_not_bootMatched (not_exists.1 hp) a).symm.trans h
      exact .of_eq rfl rfl rfl
  | disablePtr =>
    obtain ⟨m, p, j, c, b, rfl⟩ := exec_disablePtr_next h
    exact .of_eq rfl rfl rfl
  | disableJoy =>
    obtain ⟨m, p, j, c, b, rfl⟩ := exec_disableJoy_next h
    exact .of_eq rfl rfl rfl
  | joyAuto =>
    obtain ⟨m, b, rfl⟩ := exec_joyAuto_next h
    exact .of_eq rfl rfl rfl
  | joyQmode | joyQuery | fireMonitor | joyKeycode => exact absurd h (refuseNoHandler_ne_next _ _ _)
  | _ =>
    -- no other command writes the calls, the clock or the phase
    cases h
    exact .of_eq rfl rfl rfl

/-- The write handler's exit is a warm reset, which keeps the clock (10_state.md R47). -/
theorem mainWriteDone_clock (e : EntryIndex) (loc : LocalState) (out : List Byte) (exit : Bool)
    (s : State) : (mainWriteDone e loc out exit s).clock = s.clock := by
  cases exit <;> rfl

theorem mainWriteDone_calls (e : EntryIndex) (loc : LocalState) (out : List Byte) (exit : Bool)
    (s : State) : (mainWriteDone e loc out exit s).calls = s.calls := by
  cases exit <;> rfl

/-- A byte leaves the host's later calls as they are. -/
theorem submit_calls {b : Byte} {s t : State} (h : submit b s = .next t) : t.calls = s.calls := by
  cases submit_next h with
  | command i u framing complete run => exact (exec_commandFrame run).calls
  | write e loc loc' out exit executing => exact mainWriteDone_calls e loc' out exit s
  | unknown | waits | load | boot => rfl

end Sys2Proof.Machine
end

section
/-!
PROOFS. O56: no rule advances the clock (60_exceptions.md R351), so that only the byte that
completes SET_CLOCK and a cold reset change it (10_state.md R47).
-/

namespace Sys2Proof.Machine

/-- A byte that changes the clock completes SET_CLOCK (43_cmd_system.md R203). -/
theorem submit_clock {b : Byte} {s t : State} (h : submit b s = .next t)
    (hclock : t.clock ≠ s.clock) : Framing s.phase ∧ ∃ y mo d hr mi se,
      decode (appendByte b s.frame) = .command (.setClock y mo d hr mi se) [] := by
  cases submit_next h with
  | command i u framing complete run =>
    obtain hkept | ⟨y, mo, d, hr, mi, se, rfl⟩ := (exec_commandFrame run).clock
    · exact absurd hkept hclock
    · exact ⟨framing, y, mo, d, hr, mi, se, complete⟩
  | write e loc loc' out exit executing =>
    exact absurd (mainWriteDone_clock e loc' out exit s) hclock
  | unknown | waits | load | boot => exact absurd rfl hclock

/-- Settles O56: of the five kinds of call only a byte and the external reset can change the clock,
the byte by completing SET_CLOCK and the reset by being cold. -/
theorem clockChangesOnlyBySetClockOrColdReset :
    Obligations.ClockChangesOnlyBySetClockOrColdReset := by
  intro s t h hclock
  obtain ⟨-, rfl⟩ | ⟨c, rest, hc, hrun⟩ := step_next h
  · exact absurd rfl hclock
  · cases c with
    | submit b j0 j1 =>
      obtain ⟨hf, y, mo, d, hr, mi, se, hd⟩ := submit_clock hrun hclock
      exact .inl ⟨y, mo, d, hr, mi, se, b, j0, j1, rest, hc, hf, hd⟩
    | tick inp => exact absurd (congrArg (·.clock) (tick_update hrun)) hclock
    | keyEvent code => exact absurd (congrArg (·.clock) (runRead_update hrun)) hclock
    | hwReset cold =>
      cases cold with
      | false => cases hrun; exact absurd rfl hclock
      | true => exact .inr ⟨rest, hc⟩
    | hostWrite cell b => cases hrun; exact absurd rfl hclock

end Sys2Proof.Machine
end

section
/-!
PROOFS. O60: the power-on state meets both invariants (70_reset_and_hazards.md R371), R61 as the
state after any reset does.
-/

namespace Sys2Proof.Machine

/-- 10_state.md R60: a cold reset of the power-on state changes nothing. -/
theorem engineReset_reset : engineReset true State.reset = State.reset := rfl

theorem reset_specInv : SpecInv State.reset :=
  engineReset_reset ▸ engineReset_specInv true State.reset

theorem reset_fieldInv : FieldInv State.reset where
  prev_buttons := (by decide : (0x0A : Byte) &&& 0xF0 = 0)
  lanes := lanes_of_masked clearLane_masked clearLane_masked
  clock_bcd := clockZero_bcd
  loading := fun _ _ _ h => nomatch h
  mem_wf := reset_mem_wf

/-- Settles O60: the two base cases, whose steps are O58 and O59. -/
theorem powerOnStateMeetsTheInvariants : Obligations.PowerOnStateMeetsTheInvariants :=
  ⟨reset_specInv, reset_fieldInv⟩

end Sys2Proof.Machine
end

section
/-!
PROOFS. O6, the model's choice of notes/assumptions/6.md: a placed frame waits but for its last
byte, which is the next call, so that the next step completes it (40_framer.md R132).
-/

namespace Sys2Proof.Machine

/-- A table word that the decoder reads begins with the frame of its command. -/
theorem decodeTableWord_eq_some {nbits w : Nat} {i : Instr} (h : decodeTableWord nbits w = some i) :
    ∃ rest, tableBytes nbits w = encode i ++ rest := by
  unfold decodeTableWord at h
  split at h
  · rename_i rest hd
    cases h
    exact ⟨rest, encodeDecodeRoundTrip _ _ _ hd⟩
  · cases h

/-! ## The frame of a command and its table entry -/

theorem frameLength_of_lookup {op : Byte} {e : CmdEntry} (h : lookup op = some e) :
    frameLength op = e.totalLength := by
  simp only [frameLength, h]

/-- The first byte of a command's frame tells how long the frame is (30_encoding.md R91), and the
frame fits the buffer. -/
theorem encode_eq_cons (i : Instr) : ∃ op ps, encode i = op :: ps ∧
    frameLength op = ps.length + 1 ∧ ps.length + 1 ≤ Config.frameCap := by
  have hd := decode_encode_append i []
  cases henc : encode i with
  | nil => rw [henc] at hd; cases hd
  | cons op ps =>
    rw [henc] at hd
    obtain ⟨e, ps', he, hl, -, hps⟩ := decode_cons_eq_command_iff.1 hd
    obtain rfl := List.append_cancel_right hps
    refine ⟨op, ps, rfl, (frameLength_of_lookup he).trans hl.symm, ?_⟩
    exact hl.trans_le (totalLength_bounds e (lookup_mem he)).2

/-! ## Placing a frame -/

/-- The bytes of a list but the last, and the last, found by the list's length. -/
theorem take_append_getD {α : Type} (d x : α) (xs rest : List α) :
    (x :: xs ++ rest).take xs.length ++ [(x :: xs ++ rest).getD xs.length d] = x :: xs := by
  induction xs generalizing x with
  | nil => rfl
  | cons y ys ih => exact congrArg (x :: ·) (ih y)

/-- A placed command waits in the buffer but for its last byte, which is the next call. -/
theorem placeFrame_encode (i : Instr) (rest : List Byte) (s : State) :
    ∃ ps b, ps ++ [b] = encode i ∧ ps.length < Config.frameCap ∧
      placeFrame (encode i ++ rest) s = { s with
        frame := ps
        phase := framingPhase s.phase
        calls := .submit b s.live.joy0 s.live.joy1 :: s.calls } := by
  obtain ⟨op, ps, henc, hlen, hcap⟩ := encode_eq_cons i
  have hn : frameLength ((op :: ps ++ rest).headD 0x00) - 1 = ps.length := by
    rw [List.cons_append, List.headD_cons, hlen, Nat.add_sub_cancel]
  refine ⟨_, _, (take_append_getD 0x00 op ps rest).trans henc.symm, ?_, ?_⟩
  · exact (List.length_take_le _ _).trans_lt hcap
  · rw [henc, placeFrame, hn]

theorem framing_framingPhase (p : Phase) : Framing (framingPhase p) := by
  cases p with
  | bootMatched e => exact .inr ⟨e, rfl⟩
  | standard | loading | executing => exact .inl rfl

/-- Settles O6: the placed state is one of those of O5, with the command's whole frame in the buffer
once the last byte is in. -/
theorem placedWordRunsNext : Obligations.PlacedWordRunsNext := by
  rintro s _ nbits w i hw rfl
  obtain ⟨rest, hbytes⟩ := decodeTableWord_eq_some hw
  obtain ⟨ps, b, hps, hcap, hplace⟩ := placeFrame_encode i rest s
  have hd : decode (ps ++ [b]) = .command i [] := by
    rw [hps, ← List.append_nil (encode i), decode_encode_append]
  rw [State.withFetchWord, hbytes, hplace, ← hps]
  exact stepRunsTheDecodedCommand _ _ b _ _ s.calls i rfl (framing_framingPhase s.phase) hcap hd rfl

end Sys2Proof.Machine
end

section
/-!
PROOFS. O9: six zero bytes bring the framer to an empty buffer (70_reset_and_hazards.md R381). Each
zero byte brings the waiting frame one byte nearer to its length, and none begins a new frame.
-/

namespace Sys2Proof.Machine

/-! ## The bytes that a waiting frame lacks -/

/-- How many bytes the frame that waits in the buffer still lacks; none when the buffer is empty. -/
def lackingBytes : List Byte → Nat
  | [] => 0
  | op :: ps => frameLength op - (ps.length + 1)

/-- The longest frames of R100 have seven bytes, and one of them is there. -/
theorem lackingBytes_le (frame : List Byte) : lackingBytes frame ≤ 6 := by
  have hrow : ∀ e ∈ cmdTable, e.totalLength ≤ 7 := by decide
  cases frame with
  | nil => exact Nat.zero_le 6
  | cons op ps =>
    have hlen : frameLength op ≤ 7 := by
      cases he : lookup op with
      | none => simp [frameLength, he]
      | some e => exact (frameLength_of_lookup he).trans_le (hrow e (lookup_mem he))
    simp only [lackingBytes]
    omega

/-- A frame that waits lacks at least one byte. -/
theorem eq_nil_of_lackingBytes {frame : List Byte} (hf : frameWellFormed cmdTable frame = true)
    (h : lackingBytes frame = 0) : frame = [] := by
  cases frame with
  | nil => rfl
  | cons op ps =>
    obtain ⟨e, he, hl⟩ := frameWellFormed_cons.1 hf
    simp only [lackingBytes, frameLength_of_lookup he] at h
    omega

/-- A well-formed frame leaves room for one more byte (10_state.md R61). -/
theorem length_lt_of_frameWellFormed {frame : List Byte}
    (hf : frameWellFormed cmdTable frame = true) : frame.length < Config.frameCap := by
  cases frame with
  | nil => decide
  | cons op ps =>
    obtain ⟨e, he, hl⟩ := frameWellFormed_cons.1 hf
    exact hl.trans_le (totalLength_bounds e (lookup_mem he)).2

theorem lackingBytes_concat {frame : List Byte} (b : Byte) (h : frame ≠ []) :
    lackingBytes (frame ++ [b]) = lackingBytes frame - 1 := by
  cases frame with
  | nil => exact absurd rfl h
  | cons op ps =>
    simp only [List.cons_append, lackingBytes, List.length_append, List.length_singleton]
    omega

/-! ## One zero byte -/

/-- No frame begins with a zero byte (30_encoding.md R101): one that is not dropped finds a frame
waiting. -/
theorem ne_nil_of_decode_zero {frame : List Byte}
    (h : decode (appendByte 0x00 frame) ≠ .unknownOpcode 0x00) : frame ≠ [] := by
  rintro rfl
  exact h rfl

/-- The frame that a zero byte completes is the waiting one and the zero byte. -/
theorem encode_of_decode_zero {frame : List Byte} {i : Instr}
    (hf : frameWellFormed cmdTable frame = true)
    (h : decode (appendByte 0x00 frame) = .command i []) :
    frame ≠ [] ∧ encode i = frame ++ [0x00] := by
  refine ⟨ne_nil_of_decode_zero fun hu => (nomatch h.symm.trans hu), ?_⟩
  rw [← appendByte_of_lt (length_lt_of_frameWellFormed hf)]
  exact (List.append_nil _).symm.trans (encodeDecodeRoundTrip _ _ _ h).symm

/-- After a zero byte the buffer is empty, or the frame that waited is one byte longer. -/
theorem submit_zero_frame {s t : State} (h : submit 0x00 s = .next t) (hs : SpecInv s) :
    t.frame = [] ∨ s.frame ≠ [] ∧ t.frame = s.frame ++ [0x00] := by
  cases submit_next h with
  | command | unknown => exact .inl rfl
  | waits framing notComplete notUnknown =>
    exact .inr ⟨ne_nil_of_decode_zero (notUnknown 0x00),
      appendByte_of_lt (length_lt_of_frameWellFormed hs.frame_wf)⟩
  | load rem dest crc loading =>
    exact .inl (hs.frame_nil (loading ▸ not_framing_loading rem dest crc))
  | boot crc n executing => exact .inl (hs.frame_nil (executing ▸ not_framing_executing _))
  | write e loc loc' out exit executing =>
    cases exit with
    | false => exact .inl (hs.frame_nil (executing ▸ not_framing_executing _))
    | true => exact .inl rfl

theorem submit_zero_lackingBytes {s t : State} (h : submit 0x00 s = .next t) (hs : SpecInv s) :
    lackingBytes t.frame ≤ lackingBytes s.frame - 1 := by
  obtain hnil | ⟨hne, happ⟩ := submit_zero_frame h hs
  · rw [hnil]
    exact Nat.zero_le _
  · rw [happ, lackingBytes_concat _ hne]

/-! ## When a zero byte is not refused -/

/-- No handler can refuse a zero byte from here: no program executes, and a frame that waits is not
JOY_KEYCODE's and waits in phase Standard, where no command starts a program. -/
structure TakesZeros (s : State) : Prop where
  not_executing : ∀ st, s.phase ≠ .executing st
  waiting : s.frame ≠ [] → s.phase = .standard ∧ s.frame.head? ≠ some 0x19

theorem TakesZeros.of_standard {s : State} (hp : s.phase = .standard)
    (hf : s.frame.head? ≠ some 0x19) : TakesZeros s :=
  ⟨fun _ h => (nomatch hp.symm.trans h), fun _ => ⟨hp, hf⟩⟩

theorem TakesZeros.of_frame_nil {s : State} (hf : s.frame = [])
    (hp : ∀ st, s.phase ≠ .executing st) : TakesZeros s :=
  ⟨hp, fun h => absurd hf h⟩

/-- Of the commands without a handler only JOY_KEYCODE has parameters (42_cmd_joystick.md R183 to
R186). -/
theorem exec_answers {i : Instr} (hlen : 2 ≤ (encode i).length)
    (hop : (encode i).head? ≠ some 0x19) (s : State) : ∃ u, exec i s = .next u := by
  cases i with
  | joyQmode | joyQuery | fireMonitor => exact absurd hlen (by decide)
  | joyKeycode => exact absurd rfl hop
  | _ => exact ⟨_, rfl⟩

/-- The framer refuses a byte only when the handler of the command that it completes does. -/
theorem frameByte_answers {b : Byte} {s : State}
    (h : ∀ i, decode (appendByte b s.frame) = .command i [] → ∀ u, ∃ v, exec i u = .next v) :
    ∃ t, frameByte b s = .next t := by
  simp only [frameByte]
  split
  · rename_i i hi
    obtain ⟨v, hv⟩ := h i hi { s with frame := appendByte b s.frame, paused := false }
    exact ⟨_, by rw [dispatch, hv, clearFrame_next]⟩
  · exact ⟨_, rfl⟩
  · exact ⟨_, rfl⟩

theorem submit_zero_answers {s : State} (hs : SpecInv s) (hz : TakesZeros s) :
    ∃ t, submit 0x00 s = .next t := by
  obtain ⟨-, he⟩ | ⟨rem, dest, crc, -, he⟩ | ⟨st, hp, -⟩ := submit_cases 0x00 s
  · rw [he]
    refine frameByte_answers fun i hi => ?_
    obtain ⟨hne, henc⟩ := encode_of_decode_zero hs.frame_wf hi
    obtain ⟨-, hop⟩ := hz.waiting hne
    refine exec_answers ?_ ?_ <;> rw [henc]
    · have hpos := List.length_pos_of_ne_nil hne
      rw [List.length_append, List.length_singleton]
      omega
    · rwa [List.head?_append_of_ne_nil _ hne]
  · exact ⟨_, he⟩
  · exact absurd hp (hz.not_executing st)

theorem submit_zero_takesZeros {s t : State} (h : submit 0x00 s = .next t) (hs : SpecInv s)
    (hz : TakesZeros s) : TakesZeros t := by
  cases submit_next h with
  | command i u framing complete run =>
    obtain ⟨hne, -⟩ := encode_of_decode_zero hs.frame_wf complete
    obtain ⟨hp, -⟩ := hz.waiting hne
    refine .of_frame_nil rfl fun st hst => ?_
    obtain hexec | ⟨e, hboot⟩ := (exec_commandFrame run).executing st hst
    · exact hz.not_executing st hexec
    · cases hp.symm.trans hboot
  | unknown framing => exact .of_frame_nil rfl hz.not_executing
  | waits framing notComplete notUnknown =>
    have hne := ne_nil_of_decode_zero (notUnknown 0x00)
    obtain ⟨hp, hop⟩ := hz.waiting hne
    refine .of_standard hp ?_
    rwa [appendByte_of_lt (length_lt_of_frameWellFormed hs.frame_wf),
      List.head?_append_of_ne_nil _ hne]
  | load rem dest crc loading =>
    exact .of_frame_nil (hs.frame_nil (loading ▸ not_framing_loading rem dest crc))
      fun st h => loadPhase_ne_executing _ _ _ st h
  | boot crc n executing => exact absurd executing (hz.not_executing _)
  | write e loc loc' out exit executing => exact absurd executing (hz.not_executing _)

/-! ## A run of zero bytes -/

theorem run_succ_next {k : Nat} {s t : State} (h : Host.Core.run core (k + 1) s = .next t) :
    ∃ u, step s = .next u ∧ Host.Core.run core k u = .next t := by
  simp only [Host.Core.run] at h
  split at h
  · rename_i u hu
    exact ⟨u, hu, h⟩
  · cases h
  · cases h

/-- As many zero bytes as the waiting frame lacks, or more, leave the buffer empty. -/
theorem run_zeros_frame {k : Nat} {s t : State} {j0 j1 : Word16} (hs : SpecInv s)
    (hc : s.calls = List.replicate k (.submit 0x00 j0 j1)) (hk : lackingBytes s.frame ≤ k)
    (h : Host.Core.run core k s = .next t) : t.frame = [] := by
  induction k generalizing s with
  | zero =>
    cases h
    exact eq_nil_of_lackingBytes hs.frame_wf (Nat.le_zero.1 hk)
  | succ k ih =>
    obtain ⟨u, hu, hrun⟩ := run_succ_next h
    have hsubmit := (step_of_calls hc).symm.trans hu
    refine ih (submit_specInv hsubmit { hs with }) (submit_calls hsubmit) ?_ hrun
    exact (submit_zero_lackingBytes hsubmit { hs with }).trans (Nat.sub_le_of_le_add hk)

theorem run_zeros_answers {k : Nat} {s : State} {j0 j1 : Word16} (hs : SpecInv s)
    (hz : TakesZeros s) (hc : s.calls = List.replicate k (.submit 0x00 j0 j1)) :
    ∃ t, Host.Core.run core k s = .next t := by
  induction k generalizing s with
  | zero => exact ⟨s, rfl⟩
  | succ k ih =>
    obtain ⟨u, hu⟩ := submit_zero_answers
      (s := { s with
        calls := List.replicate k (.submit 0x00 j0 j1)
        live := { s.live with joy0 := j0, joy1 := j1 } }) { hs with } { hz with }
    rw [run_succ_of_step ((step_of_calls hc).trans hu)]
    exact ih (submit_specInv hu { hs with }) (submit_zero_takesZeros hu { hs with } { hz with })
      (submit_calls hu)

/-- Settles O9: no waiting frame lacks more than six bytes, and in phase Standard only JOY_KEYCODE's
can end in a refusal. -/
theorem sixZeroBytesResynchronize : Obligations.SixZeroBytesResynchronize :=
  fun s _ _ hs hc => ⟨fun _ h => run_zeros_frame hs hc (lackingBytes_le s.frame) h,
    fun hp hop => run_zeros_answers hs (.of_standard hp hop) hc⟩

end Sys2Proof.Machine
end
